-- ==== Sys2Proof/Word.lean ====
section
/-! DEFINITION. The word types of the engine (00_scope.md R6): bytes, the signed 16-bit RSSI, and the 32-bit
words of the host register block, the clock and the command word. -/

namespace Sys2Proof

/-- A byte: a node address, a network id, a frame byte (R6, R92). -/
abbrev Byte := BitVec 8

/-- A signed 16-bit value in dBm: an RSSI sample or the carrier-sense threshold (R44). -/
abbrev Half := BitVec 16

/-- A 32-bit word: a host register, a command word, a clock value (R22, R100, R314). -/
abbrev Word := BitVec 32

end Sys2Proof
end

