-- ==== Sys2Proof/Config.lean ====
section
/-! DEFINITION. What an implementation fixes (00_scope.md R5): the numbers the spec gives, the open parameters as one
record of plain data, and the free values. A free value is a constant without a body: nothing can be proved of it. -/

namespace Sys2Proof

/-- The open parameters of R5 and the strap of R21. The machine's state carries one such record and never writes it,
so that a statement about every state is a statement about every value of every parameter. -/
structure Params where
  /-- RX_LEN_CLAMP minus 3: the clamp is an integer in 3..255, so every value of this field is legal (R5, R177). -/
  rxLenSlack : Fin 253
  /-- CSMA_RSSI_THRESHOLD, signed dBm. -/
  csmaThreshold : Half
  /-- CSMA_TIMEOUT_MS. -/
  csmaTimeout : Word
  /-- TX_TIMEOUT_MS. -/
  txTimeout : Word
  /-- MODE_READY_TIMEOUT_MS, or none for NONE, the unbounded wait. -/
  modeReadyTimeout : Option Word
  /-- HP_VARIANT (R21). -/
  hpVariant : Bool
  deriving DecidableEq, Repr

namespace Config

/-- MAX_DATA_LEN (R5). -/
def maxDataLen : Nat := 61

/-- RX_BUF_CAP (R5). -/
def rxBufCap : Nat := 61

/-- BROADCAST_ADDR (R5, R92). -/
def broadcast : Byte := 255

/-- KEY_LEN (R5). -/
def keyLen : Nat := 16

/-- The number of bytes of host data memory, 2^HOST_ADDR_BITS (R60). -/
def hostMemSize : Nat := 65536

/-- PA_MAP (R5, R273): an opaque function of the level and the strap. -/
opaque paMap : Byte → Bool → Nat

/-- The free byte of a draw: a received FIFO byte past the frame ENV gave, or a payload byte after a reset event. -/
opaque freeByte : Nat → Byte

/-- The free 16-bit value of a draw: an RSSI sample ENV has not decided beforehand. -/
opaque freeHalf : Nat → Half

/-- The free word of a draw: FREQ_READBACK, or a working register after a reset event. -/
opaque freeWord : Nat → Word

/-- The free bit of a draw: a mode-ready answer ENV has not decided beforehand. -/
opaque freeBit : Nat → Bool

end Config

end Sys2Proof
end

