-- ==== Sys2Proof/Syntax.lean ====
section
/-! DEFINITION. The instructions: one constructor per row of spec/opcode_table.json. 25 commands (30_encoding.md
R102), the CAPTURE event (R107) and the four received frame classes (R97). -/

namespace Sys2Proof

/-- What a frame of every class carries besides the two class bits of its control byte (R90): FRAME_LEN, TARGET,
SENDER, CTL[5:0], and the bytes after the control byte. Any values: the chip delivers any bytes (R316). -/
structure FrameBody where
  len : Byte
  target : Byte
  sender : Byte
  ctlLow : BitVec 6
  payload : List Byte
  deriving DecidableEq, Repr

/-- An instruction of the engine. -/
inductive Instr where
  /-- INIT: own address A, network id B (R270). -/
  | init (addr net : Byte)
  /-- SET_NETWORK: network id B (R271). -/
  | setNetwork (net : Byte)
  /-- SET_PROMISCUOUS: F[2] (R272). -/
  | setPromiscuous (on : Bool)
  /-- SET_POWER_LEVEL: level A (R273). -/
  | setPowerLevel (level : Byte)
  /-- SET_FREQUENCY (R274). -/
  | setFrequency
  /-- GET_FREQUENCY (R275). -/
  | getFrequency
  /-- SET_ENCRYPTION_KEY: F[3] (R276). -/
  | setEncryptionKey (key : Bool)
  /-- SLEEP (R135). -/
  | sleep
  /-- SEND: target A, F[0] (R231). -/
  | send (target : Byte) (reqAck : Bool)
  /-- SEND_WITH_RETRY: target A, maximum retries B (R235). -/
  | sendWithRetry (target retries : Byte)
  /-- SEND_ACK (R232). -/
  | sendAck
  /-- ACK_RECEIVED: from address A (R234). -/
  | ackReceived (src : Byte)
  /-- ACK_REQUESTED (R187). -/
  | ackRequested
  /-- POLL_RECEIVED (R174). -/
  | pollReceived
  /-- SET_MODE: mode code A (R134). -/
  | setMode (code : Byte)
  /-- RECEIVE_BEGIN (R172). -/
  | receiveBegin
  /-- CAN_SEND (R211). -/
  | canSend
  /-- AWAIT_CLEAR_CHANNEL (R213). -/
  | awaitClearChannel
  /-- WRITE_FRAME: target A, F[0], F[1] (R152). -/
  | writeFrame (target : Byte) (reqAck ackReply : Bool)
  /-- GET_SENDER (R181). -/
  | getSender
  /-- GET_TARGET (R182). -/
  | getTarget
  /-- GET_LENGTH (R183). -/
  | getLength
  /-- GET_RSSI (R184). -/
  | getRssi
  /-- GET_PAYLOAD_BYTE: index A (R185). -/
  | getPayloadByte (index : Byte)
  /-- GET_ACK_FLAGS (R186). -/
  | getAckFlags
  /-- CAPTURE, the interrupt-context capture run (R175). -/
  | capture
  /-- FRAME_DATA, CTL[7:6] = 00: a data frame arrives (R97, R316). -/
  | frameData (f : FrameBody)
  /-- FRAME_DATA_REQACK, CTL[7:6] = 01. -/
  | frameDataReqack (f : FrameBody)
  /-- FRAME_ACK, CTL[7:6] = 10. -/
  | frameAck (f : FrameBody)
  /-- FRAME_ACK_REQACK, CTL[7:6] = 11. -/
  | frameAckReqack (f : FrameBody)
  deriving DecidableEq, Repr

end Sys2Proof
end

