-- ==== Sys2Proof/Machine/State.lean ====
section
/-! DEFINITION. The state of the engine and of its environment as plain data (10_state.md, 60_exceptions.md R314 to
R316), the reasons a step can stop, and the state right after reset (70_reset_and_hazards.md R340, R342). -/

namespace Sys2Proof.Machine

/-- RadioMode (R33, R34): the five legal values of MODE and CHIP_MODE; codes 5..7 are never held. -/
inductive Mode where
  | sleep | standby | synth | rx | tx
  deriving DecidableEq, Repr

/-- STATUS.FAULT_CODE (R301): codes 0 to 8; 9..15 are never raised. -/
inductive FaultCode where
  | none | illegalCommand | illegalArg | notInitialized | reinit | reservedAddr | slotRace | busy | hostAddr
  deriving DecidableEq, Repr

/-- Where a command goes on after a SetMode that left Sleep and had to wait (R130): what stands after that SetMode in
the command's pseudocode. -/
inductive Resume where
  /-- The command's last lines (SET_MODE, RECEIVE_BEGIN, POLL_RECEIVED, ACK_RECEIVED). -/
  | finish
  /-- The head of the channel-clear loop, after its ReceiveDone (R212). -/
  | csma
  /-- The head of the ACK wait, after its AckReceived (R235). -/
  | ackPoll
  /-- TransmitFrame after its first SetMode (R230). -/
  | txStart
  /-- TransmitFrame after its SetMode to TX. -/
  | txSend
  /-- TransmitFrame after its last SetMode. -/
  | txEnd
  deriving DecidableEq, Repr

/-- The sequencer's phase (R49): the next atomic segment of the running command. Every phase but start is one of the
interrupt windows of R69. -/
inductive Phase where
  /-- Phase 0: decode and the command's first segment (R302). Also the phase while IDLE. -/
  | start
  /-- The window between two attempts of SEND_WITH_RETRY (R235). -/
  | retry
  /-- The window between RxRestart and AwaitClearChannel (R231). -/
  | csmaEnter
  /-- The window before CanSend (R212). -/
  | csmaTest
  /-- The window before ReceiveDone in the channel-clear loop (R212). -/
  | csmaPoll
  /-- The window before TransmitFrame (R231). -/
  | txEnter
  /-- The window of TransmitFrame's mode-ready wait (R230, R132). -/
  | txReady
  /-- The window of the packet-sent wait (R230). -/
  | txSent
  /-- The window of the ACK wait (R235). -/
  | ackWait
  /-- The window of the mode-ready wait of SetMode(m) leaving Sleep (R130, R132). -/
  | wake (m : Mode) (r : Resume)
  deriving DecidableEq, Repr

/-- The shared receive slot (R38 to R45). -/
structure Slot where
  /-- RX_FRAME_LEN, the pending length. -/
  frameLen : Byte
  /-- RX_DATA_LEN. -/
  dataLen : Byte
  /-- RX_SENDER. -/
  sender : Byte
  /-- RX_TARGET. -/
  target : Byte
  /-- RX_ACK_REQ. -/
  ackReq : Bool
  /-- RX_ACK_RCVD. -/
  ackRcvd : Bool
  /-- RX_RSSI, signed. -/
  rssi : Half
  /-- RX_PAYLOAD. -/
  payload : Vector Byte 61
  deriving DecidableEq, Repr

/-- The sequencer's working registers (R49). -/
structure Work where
  tMr : Word
  tCsma : Word
  tTx : Word
  tAck : Word
  attempt : BitVec 9
  savedSender : Byte
  savedRssi : Half
  lAcc : Byte
  deriving DecidableEq, Repr

/-- What ENV holds of the radio chip (R51, R315, R316). -/
structure Chip where
  /-- The mode the chip is in: the one last commanded, unless the engine was reset or the chip brought up since (R343,
  R342, A36, A39). -/
  opMode : Mode
  payloadReady : Bool
  packetSent : Bool
  txLoaded : Bool
  netId : Byte
  /-- The bytes of the received frame not read yet (R65). -/
  rxFifo : List Byte
  /-- Every byte pushed into the transmit FIFO, oldest first (R64). -/
  txFifo : List Byte
  /-- The bytes of the last WriteFrame, which Packet sent puts on the air (R316). -/
  txFrame : List Byte
  /-- The air trace, oldest frame first (R316). -/
  air : List (List Byte)
  /-- The opaque power setting, a value of PA_MAP (R273). -/
  paSetting : Nat
  /-- The opaque carrier frequency setting (R274). -/
  carrier : Word
  /-- The opaque encryption key, or off (R276). -/
  aesKey : Option (List Byte)
  deriving DecidableEq, Repr

/-- A bus transaction (R315, R151, R154), with the answer the chip gave. -/
inductive ChipOp where
  | setOpMode (m : Mode)
  | setHighPower (on : Bool)
  | readModeReady (ready : Bool)
  | setDio0Map (packetSent : Bool)
  | readPayloadReady (ready : Bool)
  | readPacketSent (sent : Bool)
  | rxRestart
  | readRssi (v : Half)
  | setSyncNetwork (id : Byte)
  | setPaLevel (v : Nat)
  | setFrequency (hz : Word)
  | readFrequency (hz : Word)
  | setAesKey (k : List Byte)
  | setAesOff
  | fifoWrite (bytes : List Byte)
  | fifoRead (bytes : List Byte)
  deriving DecidableEq, Repr

/-- The answers ENV has decided on beforehand, each list in the order of the reads (the model's own field, A13).
A read with no answer prepared takes a free value. -/
structure Answers where
  modeReady : List Bool
  rssi : List Half
  frequency : List Word
  deriving DecidableEq, Repr

/-- A move of HOST or ENV, or leave for the engine to take its own next unit (R8, R68). -/
inductive Input where
  /-- The engine takes its next unit: CAP if it can start, else APP (R308). -/
  | engine
  /-- A host write of v, so many bits wide, at a byte offset of the register block (R62). -/
  | hostWrite (width offset : Nat) (v : Word)
  /-- A host read (R61). -/
  | hostRead (width offset : Nat)
  /-- The host stores a byte in its data memory (R63). -/
  | hostMemWrite (a : BitVec 16) (b : Byte)
  /-- The reset input (R340). -/
  | reset
  /-- The host brings the chip up (R342 step 1), at any time (A39). -/
  | bringUp
  /-- A frame of network net, its FIFO bytes in order (R316). -/
  | frame (net : Byte) (bytes : List Byte)
  /-- The chip has sent the frame (R316). -/
  | packetSent
  /-- The millisecond clock ticks (R314). -/
  | tick
  deriving DecidableEq, Repr

/-- Why the machine stops with a fault. No run from reset reaches one. -/
inductive Fault where
  /-- Raised by the transmit commands and SET_ENCRYPTION_KEY when a payload or key read would leave host memory. The
  decode check of R63 keeps every run from it. Safe: the model stops. -/
  | noSuchHostAddress
  /-- Raised by a command of several segments at a phase its pseudocode does not have (R49). Safe: the model stops. -/
  | phaseMismatch
  deriving DecidableEq, Repr

/-- Why the model has no transition. -/
inductive Refusal where
  /-- Raised by exec's arm of an instruction that has no meaning yet. Safe. -/
  | notModelled (mnemonic : String)
  /-- Raised by a host access that is not a 32-bit access at a multiple of 4 in 0x00..0x1C (R61). Safe. -/
  | hostAccess
  /-- Raised by a host write of data memory while BUSY = 1: the host has no such step (R63). Safe. -/
  | hostMemoryWhileBusy
  /-- Raised by a frame arrival or packet-sent event while the chip is out of step with CHIP_MODE: after a reset outside
  Standby and before bring-up, where the spec does not model the chip (R343), or after a bring-up while CHIP_MODE is not
  Standby (A39). Safe. -/
  | chipOutOfStep
  deriving DecidableEq, Repr

/-- The machine's state. -/
structure State where
  /-- The open parameters and the HP_VARIANT strap (R5, R21); nothing writes them. -/
  params : Params
  /-- CMD (R22). -/
  cmd : Word
  /-- ARG_LEN[7:0] (R23). -/
  argLen : Byte
  /-- ARG_PTR[15:0] (R24). -/
  argPtr : BitVec 16
  /-- ARG_TMO (R25). -/
  argTmo : Word
  /-- ARG_FREQ (R26). -/
  argFreq : Word
  /-- RESULT (R27). -/
  result : Word
  /-- FAULT_INFO (R28). -/
  faultInfo : Word
  /-- STATUS.BUSY (R29). -/
  busy : Bool
  /-- STATUS.INIT_DONE (R29). -/
  initDone : Bool
  /-- STATUS.FAULT_CODE (R29, R301). -/
  faultCode : FaultCode
  /-- OWN_ADDR (R30). -/
  ownAddr : Byte
  /-- NET_ID (R31). -/
  netId : Byte
  /-- PROMISC (R32). -/
  promisc : Bool
  /-- MODE (R34). -/
  mode : Mode
  /-- HP_ON (R35). -/
  hpOn : Bool
  /-- CHIP_MODE (R36). -/
  chipMode : Mode
  /-- DIO0_MAP (R37): false is 0, payload ready; true is 1, packet sent. -/
  dio0Map : Bool
  /-- RX_* (R38 to R45). -/
  slot : Slot
  /-- IE (R46). -/
  ie : Bool
  /-- IN_ISR (R47). -/
  inIsr : Bool
  /-- IRQ_PENDING (R48). -/
  irqPending : Bool
  /-- CUR_CMD (R49). -/
  curCmd : Word
  /-- The phase (R49). -/
  phase : Phase
  /-- The working registers (R49). -/
  work : Work
  /-- ENV: the chip (R316). -/
  chip : Chip
  /-- ENV: the millisecond counter Now() reads (R314). -/
  clock : Word
  /-- HOST: data memory, the listed bytes (R60, R63). -/
  hostMem : List Host.Cell
  /-- The model's own: ENV's prepared answers. -/
  answers : Answers
  /-- The model's own: how many free values have been used. -/
  draws : Nat
  /-- The model's own: the outside moves still to come. -/
  inputs : List Input
  /-- The model's own: the bus transactions made, newest first (R320). -/
  busTrace : List ChipOp
  /-- The model's own: what the host's last register read returned. -/
  hostData : Word
  deriving DecidableEq, Repr

/-- PRESUMED: the parameter values 95_test_vectors.md runs its vectors with (A7). -/
def resetParams : Params where
  rxLenSlack := 63
  csmaThreshold := -90
  csmaTimeout := 1000
  txTimeout := 1000
  modeReadyTimeout := some 100
  hpVariant := false

/-- The slot after reset (R38 to R45); the payload bytes are a DESIGN CHOICE (A8). -/
def resetSlot : Slot where
  frameLen := 0
  dataLen := 0
  sender := 0
  target := 0
  ackReq := false
  ackRcvd := false
  rssi := 0
  payload := Vector.replicate 61 0

/-- The working registers after reset: unspecified by R49, DESIGN CHOICE 0 (A9). -/
def resetWork : Work where
  tMr := 0
  tCsma := 0
  tTx := 0
  tAck := 0
  attempt := 0
  savedSender := 0
  savedRssi := 0
  lAcc := 0

/-- A chip just brought up (R342): Standby, both flags 0; the rest is a DESIGN CHOICE (A11). -/
def resetChip : Chip where
  opMode := .standby
  payloadReady := false
  packetSent := false
  txLoaded := false
  netId := 0
  rxFifo := []
  txFifo := []
  txFrame := []
  air := []
  paSetting := 0
  carrier := 0
  aesKey := none

/-- The machine right after reset (R340) with the chip brought up (R342). -/
def State.reset : State where
  params := resetParams
  cmd := 0
  argLen := 0
  argPtr := 0
  argTmo := 0
  argFreq := 0
  result := 0
  faultInfo := 0
  busy := false
  initDone := false
  faultCode := .none
  ownAddr := 0
  netId := 0
  promisc := false
  mode := .standby
  hpOn := false
  chipMode := .standby
  dio0Map := false
  slot := resetSlot
  ie := true
  inIsr := false
  irqPending := false
  curCmd := 0
  phase := .start
  work := resetWork
  chip := resetChip
  clock := 0
  hostMem := []
  answers := ⟨[], [], []⟩
  draws := 0
  inputs := []
  busTrace := []
  hostData := 0

end Sys2Proof.Machine
end

