-- ==== Sys2Proof/Machine/Flags.lean ====
section
/-! DEFINITION. The flag computations: the control byte (30_encoding.md R94 to R96, 41_frame_codec.md R150), the
STATUS word (10_state.md R29), the RESULT encodings (R108), the pipeline state (R50) and the DIO0 level (R307). -/

namespace Sys2Proof.Machine

/-- CTL_SENDACK (R94). -/
def ctlSendAck : Byte := 0x80
/-- CTL_REQACK (R94). -/
def ctlReqAck : Byte := 0x40

/-- BuildCtl(rq, ar) (R150): SEND_ACK wins, and at most one bit is set. -/
def buildCtl (rq ar : Bool) : Byte := if ar then ctlSendAck else if rq then ctlReqAck else 0

/-- RX_ACK_RCVD of a received control byte, CTL[7] (R96). -/
def ctlAckRcvd (ctl : Byte) : Bool := (ctl &&& ctlSendAck) != 0
/-- RX_ACK_REQ of a received control byte, CTL[6] (R96). -/
def ctlAckReq (ctl : Byte) : Bool := (ctl &&& ctlReqAck) != 0

/-- The 3-bit code of a mode (R34). -/
def Mode.code : Mode → BitVec 3
  | .sleep => 0 | .standby => 1 | .synth => 2 | .rx => 3 | .tx => 4

/-- The 4-bit FAULT_CODE (R301). -/
def FaultCode.code : FaultCode → BitVec 4
  | .none => 0 | .illegalCommand => 1 | .illegalArg => 2 | .notInitialized => 3 | .reinit => 4
  | .reservedAddr => 5 | .slotRace => 6 | .busy => 7 | .hostAddr => 8

/-- zext_32 of a bool (R108). -/
def boolWord (b : Bool) : Word := (BitVec.ofBool b).setWidth 32
/-- zext_32 of a byte (R108). -/
def byteWord (b : Byte) : Word := b.setWidth 32
/-- sext_32 of an RSSI value (R108). -/
def rssiWord (v : Half) : Word := v.signExtend 32
/-- GET_ACK_FLAGS: bit 1 is RX_ACK_RCVD, bit 0 is RX_ACK_REQ (R108, R186). -/
def ackFlagsWord (rcvd req : Bool) : Word := boolWord rcvd <<< 1 ||| boolWord req

/-- The STATUS word (R29). -/
def statusWord (s : State) : Word :=
  boolWord s.busy ||| boolWord s.initDone <<< 1 ||| s.mode.code.setWidth 32 <<< 2
    ||| s.faultCode.code.setWidth 32 <<< 8

/-- The Receive Pipeline states (R50). -/
inductive Pipeline where
  | armed | filled | consumed | idle
  deriving DecidableEq, Repr

/-- The pipeline state as a function of MODE and RX_FRAME_LEN (R50). -/
def pipeline (s : State) : Pipeline :=
  if s.mode = .rx then (if s.slot.frameLen = 0 then .armed else .filled)
  else (if s.slot.frameLen = 0 then .idle else .consumed)

/-- The level of the DIO0 line (R307). -/
def dio0 (s : State) : Bool := if s.dio0Map then s.chip.packetSent else s.chip.payloadReady

end Sys2Proof.Machine
end

