-- ==== Sys2Proof/Machine/Memory.lean ====
section
/-! DEFINITION. Host data memory (20_memory.md R60, R63): 65536 bytes, held as the list of the bytes that differ from
what an unlisted address reads as, at strictly rising addresses. -/

namespace Sys2Proof.Machine

/-- Host data memory. -/
abbrev Memory := List Host.Cell

/-- DESIGN CHOICE (A12): what a byte the host has not written reads as; the spec gives no contents. -/
def memUnlisted : Byte := 0

/-- MemRead(a, 1) (R63). -/
def memRead : Memory → Nat → Byte
  | [], _ => memUnlisted
  | (a', b) :: m, a => if a = a' then b else memRead m a

/-- Put a cell in front, unless it reads as an unlisted address does. -/
def memCons (a : Nat) (b : Byte) (m : Memory) : Memory := if b = memUnlisted then m else (a, b) :: m

/-- The host stores a byte, keeping the canonical form. -/
def memWrite : Memory → Nat → Byte → Memory
  | [], a, b => memCons a b []
  | (a', b') :: m, a, b =>
    if a < a' then memCons a b ((a', b') :: m)
    else if a = a' then memCons a b m
    else (a', b') :: memWrite m a b

/-- The cells from address lo on are canonical: strictly rising, inside the address space, none at the unlisted value. -/
def Memory.wfFrom : Nat → List Host.Cell → Bool
  | _, [] => true
  | lo, (a, b) :: m => decide (lo ≤ a) && decide (a < Config.hostMemSize) && (b != memUnlisted) && wfFrom (a + 1) m

/-- The canonical form. -/
def Memory.wf (m : List Host.Cell) : Bool := Memory.wfFrom 0 m

/-- n bytes from address p on, in rising address order, or nothing when one of them lies past the address space (R63). -/
def memReadRange (m : Memory) (p n : Nat) : Option (List Byte) :=
  if p + n ≤ Config.hostMemSize then some ((List.range n).map fun i => memRead m (p + i)) else none

end Sys2Proof.Machine
end

