-- ==== Sys2Proof/WellFormed.lean ====
section
/-! DEFINITION. Which instructions are well formed: the operand values a command's rule admits (30_encoding.md R105),
and frames that are as long as their length byte says (R91). An ill-formed command still decodes and runs: it takes
the fault its rule names. An ill-formed frame still arrives: the chip delivers any bytes (R316). -/

namespace Sys2Proof

/-- The operand values R105 and R301 code 2 admit: SET_MODE 0..4, SET_POWER_LEVEL 0..31, GET_PAYLOAD_BYTE 0..60. -/
def Instr.argLegal : Instr → Bool
  | .setMode a => a.toNat ≤ 4
  | .setPowerLevel a => a.toNat ≤ 31
  | .getPayloadByte a => a.toNat < Config.rxBufCap
  | _ => true

/-- INIT's own address is not the broadcast address (R105, R301 code 5). -/
def Instr.addrLegal : Instr → Bool
  | .init a _ => a != Config.broadcast
  | _ => true

/-- FRAME_LEN counts the bytes after itself: three header bytes and the payload (R91). -/
def FrameBody.complete (f : FrameBody) : Bool := f.len.toNat == f.payload.length + 3

/-- A frame instruction's bytes are as many as its length byte says. -/
def Instr.frameLegal : Instr → Bool
  | .frameData f | .frameDataReqack f | .frameAck f | .frameAckReqack f => f.complete
  | _ => true

/-- A well-formed instruction. -/
def Instr.wellFormed (i : Instr) : Bool := i.argLegal && i.addrLegal && i.frameLegal

end Sys2Proof
end

