-- ==== Sys2Proof/Machine/Operands.lean ====
section
/-! DEFINITION. The operand forms: the argument registers (30_encoding.md R101), the mode operand (R34, R134), the
payload and key bytes in host memory (20_memory.md R63), and what the decode checks of 60_exceptions.md R302 ask of
an instruction's operands. -/

namespace Sys2Proof.Machine

/-- The mode of an operand code; codes 5..255 are none (R34, R134). -/
def modeOfCode (a : Byte) : Option Mode :=
  if a = 0 then some .sleep
  else if a = 1 then some .standby
  else if a = 2 then some .synth
  else if a = 3 then some .rx
  else if a = 4 then some .tx
  else none

/-- n = min(L, MAX_DATA_LEN), L = ARG_LEN[7:0] (R63, R151). -/
def payloadCount (s : State) : Nat := min s.argLen.toNat Config.maxDataLen

/-- P = ARG_PTR[15:0] as an address (R101). -/
def payloadAddr (s : State) : Nat := s.argPtr.toNat

/-- The payload bytes MemRead(P + i, 1), i < n (R151). -/
def payloadBytes (s : State) : Option (List Byte) := memReadRange s.hostMem (payloadAddr s) (payloadCount s)

/-- The key bytes MemRead(P + i, 1), i < 16 (R276). -/
def keyBytes (s : State) : Option (List Byte) := memReadRange s.hostMem (payloadAddr s) Config.keyLen

/-- How many host bytes an instruction reads at ARG_PTR, if it reads any (R63). -/
def hostBytes (i : Instr) (s : State) : Option Nat :=
  match i with
  | .send _ _ | .sendWithRetry _ _ | .sendAck | .writeFrame _ _ _ => some (payloadCount s)
  | .setEncryptionKey key => if key then some Config.keyLen else none
  | .init _ _ | .setNetwork _ | .setPromiscuous _ | .setPowerLevel _ | .setFrequency | .getFrequency | .sleep
  | .ackReceived _ | .ackRequested | .pollReceived | .setMode _ | .receiveBegin | .canSend | .awaitClearChannel
  | .getSender | .getTarget | .getLength | .getRssi | .getPayloadByte _ | .getAckFlags
  | .capture | .frameData _ | .frameDataReqack _ | .frameAck _ | .frameAckReqack _ => none

/-- The range check of R63. -/
def hostRangeOk (i : Instr) (s : State) : Bool :=
  match hostBytes i s with
  | some n => payloadAddr s + n ≤ Config.hostMemSize
  | none => true

/-- The slot readers of R180. -/
def readsSlot : Instr → Bool
  | .getSender | .getTarget | .getLength | .getRssi | .getPayloadByte _ | .getAckFlags | .ackRequested | .sendAck => true
  | .init _ _ | .setNetwork _ | .setPromiscuous _ | .setPowerLevel _ | .setFrequency | .getFrequency
  | .setEncryptionKey _ | .sleep | .send _ _ | .sendWithRetry _ _ | .ackReceived _ | .pollReceived | .setMode _
  | .receiveBegin | .canSend | .awaitClearChannel | .writeFrame _ _ _
  | .capture | .frameData _ | .frameDataReqack _ | .frameAck _ | .frameAckReqack _ => false

/-- The INIT row (R302). -/
def isInit : Instr → Bool
  | .init _ _ => true
  | .setNetwork _ | .setPromiscuous _ | .setPowerLevel _ | .setFrequency | .getFrequency | .setEncryptionKey _ | .sleep
  | .send _ _ | .sendWithRetry _ _ | .sendAck | .ackReceived _ | .ackRequested | .pollReceived | .setMode _
  | .receiveBegin | .canSend | .awaitClearChannel | .writeFrame _ _ _
  | .getSender | .getTarget | .getLength | .getRssi | .getPayloadByte _ | .getAckFlags
  | .capture | .frameData _ | .frameDataReqack _ | .frameAck _ | .frameAckReqack _ => false

/-- The operand check of the row's rule (R302, R105). -/
def operandOk (i : Instr) : Bool := i.argLegal

/-- INIT's address check (R302). -/
def addressOk (i : Instr) : Bool := i.addrLegal

/-- The decode checks after the word itself, in the order of R302: the fault the first failing one names. -/
def decodeFault (i : Instr) (s : State) : Option FaultCode :=
  if isInit i && s.initDone then some .reinit
  else if !isInit i && !s.initDone then some .notInitialized
  else if !operandOk i then some .illegalArg
  else if !addressOk i then some .reservedAddr
  else if readsSlot i && s.mode = .rx then some .slotRace
  else if !hostRangeOk i s then some .hostAddr
  else none

end Sys2Proof.Machine
end

