-- ==== Sys2Proof/Machine/Ops.lean ====
section
/-! DEFINITION. The named operations on the state: critical section, chip operations, draws, the frame FIFO, fault
entry, interrupt entry and return, reset, the edge latch, and the internal routines that commands and the capture
share (SetMode, ReceiveBegin). -/

namespace Sys2Proof.Machine

/-- An outcome of this machine. -/
abbrev Result := Host.Outcome State Fault Refusal

/-! ## Sequencer (R49) -/

/-- Go to a phase. -/
def toPhase (p : Phase) (s : State) : State := { s with phase := p }

/-- finish() (R7): BUSY is cleared and the sequencer is IDLE. -/
def finish (s : State) : State := { s with busy := false, phase := .start }

/-- finish(result) (R7). -/
def finishWith (v : Word) (s : State) : State := finish { s with result := v }

/-! ## Faults (R301 to R303) and reset (R340) -/

/-- raise Fault(code, CUR_CMD) (R303): nothing else changes. -/
def raiseFault (c : FaultCode) (s : State) : State :=
  { s with faultCode := c, faultInfo := s.curCmd, busy := true }

/-- Phase 0 (R302): the decode checks, then the first segment in the same unit. -/
def started (i : Instr) (s : State) (segment : State → Result) : Result :=
  match decodeFault i s with
  | some c => .next (raiseFault c s)
  | none => segment s

/-- The payload buffer after a reset event: every byte is a free value (R45). -/
def freePayload (d : Nat) : Vector Byte 61 := Vector.ofFn fun i => Config.freeByte (d + i.val)

/-- The working registers after a reset event: every one is a free value (R49). -/
def freeWork (d : Nat) : Work where
  tMr := Config.freeWord d
  tCsma := Config.freeWord (d + 1)
  tTx := Config.freeWord (d + 2)
  tAck := Config.freeWord (d + 3)
  attempt := (Config.freeHalf d).setWidth 9
  savedSender := Config.freeByte (d + 61)
  savedRssi := Config.freeHalf (d + 1)
  lAcc := Config.freeByte (d + 62)

/-- The reset event (R340): every engine register takes its reset value; the strap, ENV and host memory keep theirs.
It is also the only way out of a fault (R304). -/
def resetEvent (s : State) : State :=
  { State.reset with
    params := s.params
    slot := { resetSlot with payload := freePayload s.draws }
    work := freeWork s.draws
    chip := s.chip
    clock := s.clock
    hostMem := s.hostMem
    answers := s.answers
    draws := s.draws + 63
    inputs := s.inputs
    busTrace := s.busTrace
    hostData := s.hostData }

/-! ## Critical section and interrupt (R307 to R309) -/

/-- BusBegin (R309). -/
def busBegin (s : State) : State := { s with ie := false }

/-- BusEnd (R309): IE is set unless the caller is the interrupt handler. -/
def busEnd (s : State) : State := { s with ie := s.ie || !s.inIsr }

/-- One bus transaction: BusBegin, an effect, BusEnd (R315). -/
def bus (op : ChipOp) (effect : State → State) (s : State) : State :=
  let t := effect (busBegin s)
  busEnd { t with busTrace := op :: t.busTrace }

/-- CAP entry (R309). -/
def capEntry (s : State) : State := { s with irqPending := false, inIsr := true, ie := false }

/-- CAP exit (R309). -/
def capExit (s : State) : State := { s with inIsr := false, ie := true }

/-- The condition of R308 for CAP to start; between two units APP is always at one of the points R308 names. -/
def captureDue (s : State) : Bool := s.irqPending && s.ie && !s.inIsr && s.faultCode == .none

/-- The edge latch, evaluated after every atomic unit (R307). -/
def latchEdge (before after : State) : State :=
  if !dio0 before && dio0 after then { after with irqPending := true } else after

/-- The latch over a unit's outcome. -/
def latched (before : State) : Result → Result
  | .next after => .next (latchEdge before after)
  | .fault r => .fault r
  | .refused r => .refused r

/-! ## Draws (R316, R317) -/

/-- The chip's next mode-ready answer: the prepared one, else a free value. -/
def modeReadyAnswer (s : State) : Bool := s.answers.modeReady.headD (Config.freeBit s.draws)

/-- The chip's next RSSI sample. -/
def rssiAnswer (s : State) : Half := s.answers.rssi.headD (Config.freeHalf s.draws)

/-- The chip's next frequency readback, FREQ_READBACK (R275). -/
def frequencyAnswer (s : State) : Word := s.answers.frequency.headD (Config.freeWord s.draws)

/-! ## Chip operations (R315) -/

/-- Chip.SetOpMode(m): CHIP_MODE and the chip's mode; leaving TX clears chip.packetSent. -/
def chipSetOpMode (m : Mode) : State → State :=
  bus (.setOpMode m) fun s =>
    { s with
      chipMode := m
      chip := { s.chip with opMode := m, packetSent := s.chip.packetSent && !(s.chipMode == .tx && m != .tx) } }

/-- Chip.SetHighPower(b): HP_ON. -/
def chipSetHighPower (b : Bool) : State → State :=
  bus (.setHighPower b) fun s => { s with hpOn := b }

/-- Chip.ReadModeReady(): the answer is modeReadyAnswer of the state before. -/
def chipReadModeReady (s : State) : State :=
  bus (.readModeReady (modeReadyAnswer s))
    (fun t => { t with answers := { t.answers with modeReady := t.answers.modeReady.tail }, draws := t.draws + 1 }) s

/-- Chip.SetDio0Map(v): DIO0_MAP. -/
def chipSetDio0Map (v : Bool) : State → State :=
  bus (.setDio0Map v) fun s => { s with dio0Map := v }

/-- Chip.ReadPayloadReady(): the answer is chip.payloadReady. -/
def chipReadPayloadReady (s : State) : State := bus (.readPayloadReady s.chip.payloadReady) id s

/-- Chip.ReadPacketSent(): the answer is chip.packetSent. -/
def chipReadPacketSent (s : State) : State := bus (.readPacketSent s.chip.packetSent) id s

/-- Chip.RxRestart(): payloadReady falls and a frame in the FIFO is discarded. -/
def chipRxRestart : State → State :=
  bus .rxRestart fun s => { s with chip := { s.chip with payloadReady := false, rxFifo := [] } }

/-- Chip.ReadRssi(): the answer is rssiAnswer of the state before. -/
def chipReadRssi (s : State) : State :=
  bus (.readRssi (rssiAnswer s))
    (fun t => { t with answers := { t.answers with rssi := t.answers.rssi.tail }, draws := t.draws + 1 }) s

/-- Chip.SetSyncNetwork(id): chip.netId. -/
def chipSetSyncNetwork (id : Byte) : State → State :=
  bus (.setSyncNetwork id) fun s => { s with chip := { s.chip with netId := id } }

/-- Chip.SetPaLevel(v). -/
def chipSetPaLevel (v : Nat) : State → State :=
  bus (.setPaLevel v) fun s => { s with chip := { s.chip with paSetting := v } }

/-- Chip.SetFrequency(hz). -/
def chipSetFrequency (hz : Word) : State → State :=
  bus (.setFrequency hz) fun s => { s with chip := { s.chip with carrier := hz } }

/-- Chip.ReadFrequency(): the answer is frequencyAnswer of the state before. -/
def chipReadFrequency (s : State) : State :=
  bus (.readFrequency (frequencyAnswer s))
    (fun t => { t with answers := { t.answers with frequency := t.answers.frequency.tail }, draws := t.draws + 1 }) s

/-- Chip.SetAesKey(k). -/
def chipSetAesKey (k : List Byte) : State → State :=
  bus (.setAesKey k) fun s => { s with chip := { s.chip with aesKey := some k } }

/-- Chip.SetAesOff(). -/
def chipSetAesOff : State → State :=
  bus .setAesOff fun s => { s with chip := { s.chip with aesKey := none } }

/-! ## The FIFO (R64, R65) -/

/-- One WriteFrame transaction: the bytes are pushed, and its BusEnd loads the transmitter (R64, R316). -/
def fifoWriteFrame (bytes : List Byte) : State → State :=
  bus (.fifoWrite bytes) fun s =>
    { s with chip := { s.chip with txFifo := s.chip.txFifo ++ bytes, txFrame := bytes, txLoaded := true } }

/-- The byte the k-th FifoRead from here answers: the frame's byte, else a free value (R65). -/
def fifoByte (s : State) (k : Nat) : Byte := s.chip.rxFifo.getD k (Config.freeByte (s.draws + k))

/-- The bytes of the FifoReads number lo, …, lo + n - 1 from here. -/
def fifoBytes (s : State) (lo n : Nat) : List Byte := (List.range n).map fun i => fifoByte s (lo + i)

/-- n FifoReads: the bytes are popped (R65). -/
def fifoPop (n : Nat) (s : State) : State :=
  { s with chip := { s.chip with rxFifo := s.chip.rxFifo.drop n }, draws := s.draws + n }

/-! ## The clock (R314) -/

/-- elapsed(t0) = (Now() - t0) mod 2^32 (R7). -/
def elapsed (s : State) (t0 : Word) : Word := s.clock - t0

/-- The bound of the mode-ready wait is reached; NONE never is (R132). -/
def modeReadyExpired (s : State) : Bool :=
  match s.params.modeReadyTimeout with
  | some bound => bound ≤ elapsed s s.work.tMr
  | none => false

/-! ## SetMode (R130 to R132) -/

/-- ApplyHighPower(m) (R131). -/
def applyHighPower (m : Mode) (s : State) : State :=
  if s.params.hpVariant && m == .tx then chipSetHighPower true s
  else if s.params.hpVariant && m == .rx then chipSetHighPower false s
  else s

/-- SetMode's transactions: the chip's mode, then the amplifiers (R130). -/
def setModeBus (m : Mode) (s : State) : State := applyHighPower m (chipSetOpMode m s)

/-- SetMode(m) when MODE is not Sleep: one segment (R130). -/
def setModeNow (m : Mode) (s : State) : State :=
  if s.mode = m then s else { setModeBus m s with mode := m }

/-- Begin a mode-ready wait at a window: T_MR <- Now() (R132). -/
def enterReadyWait (p : Phase) (s : State) : State :=
  { s with work := { s.work with tMr := s.clock }, phase := p }

/-- SetMode(m) and then k: at once, or after the mode-ready wait when MODE leaves Sleep; r names k for the
sequencer (R130). -/
def setModeThen (m : Mode) (r : Resume) (k : State → State) (s : State) : State :=
  if s.mode = .sleep ∧ m ≠ .sleep then enterReadyWait (.wake m r) (setModeBus m s)
  else k (setModeNow m s)

/-- One poll of a mode-ready wait, and then k when the chip is ready or the bound is reached (R132). -/
def readyPoll (k : State → State) (s : State) : State :=
  let t := chipReadModeReady s
  if modeReadyAnswer s || modeReadyExpired t then k t else t

/-- One poll of SetMode's wait: MODE <- m at its end, and then k (R130). -/
def wakePoll (m : Mode) (k : State → State) (s : State) : State :=
  readyPoll (fun t => k { t with mode := m }) s

/-! ## ReceiveBegin (R171) -/

/-- The seven slot fields ReceiveBegin clears; RX_PAYLOAD is not one of them (R171). -/
def clearSlot (s : State) : State :=
  { s with slot := { resetSlot with payload := s.slot.payload } }

/-- Chip.RxRestart if a stale payload ready is set (R171). -/
def restartIfStale (s : State) : State :=
  if s.chip.payloadReady then chipRxRestart (chipReadPayloadReady s) else chipReadPayloadReady s

/-- ReceiveBegin before its SetMode (R171). -/
def rearm (s : State) : State := chipSetDio0Map false (restartIfStale (clearSlot s))

/-- ReceiveBegin() and then k (R171). -/
def receiveBeginThen (r : Resume) (k : State → State) (s : State) : State := setModeThen .rx r k (rearm s)

/-- ReceiveDone(), and then kTrue or kFalse by its result (R173). -/
def receiveDone (r : Resume) (kTrue kFalse : State → State) (s : State) : State :=
  let masked : State := { s with ie := false }
  if s.mode = .rx then
    if s.slot.frameLen = 0 then kFalse { masked with ie := true } else kTrue (setModeNow .standby masked)
  else receiveBeginThen r kFalse masked

end Sys2Proof.Machine
end

