-- ==== Sys2Proof/Machine/Configuration.lean ====
section
/-! DEFINITION. The configuration commands (45_configuration.md R270 to R276). -/

namespace Sys2Proof.Machine

/-- INIT turns the amplifiers off on the high-power variant (R270). -/
def initHighPower (s : State) : State := if s.params.hpVariant then chipSetHighPower false s else s

/-- INIT's only segment (R270). After reset MODE is Standby, so its SetMode does nothing. -/
def initEngine (addr net : Byte) (s : State) : State :=
  let s1 := chipSetSyncNetwork net { s with ownAddr := addr, netId := net }
  let s2 := initHighPower (chipSetDio0Map false { s1 with promisc := false })
  finish { clearSlot (setModeNow .standby s2) with initDone := true }

/-- INIT (R270). -/
def execInit (addr net : Byte) (s : State) : Result :=
  started (.init addr net) s fun s => .next (initEngine addr net s)

/-- SET_NETWORK (R271). -/
def execSetNetwork (net : Byte) (s : State) : Result :=
  started (.setNetwork net) s fun s => .next (finish (chipSetSyncNetwork net { s with netId := net }))

/-- SET_PROMISCUOUS (R272). -/
def execSetPromiscuous (on : Bool) (s : State) : Result :=
  started (.setPromiscuous on) s fun s => .next (finish { s with promisc := on })

/-- SET_POWER_LEVEL (R273). -/
def execSetPowerLevel (level : Byte) (s : State) : Result :=
  started (.setPowerLevel level) s fun s =>
    .next (finish (chipSetPaLevel (Config.paMap level s.params.hpVariant) s))

/-- SET_FREQUENCY (R274). -/
def execSetFrequency (s : State) : Result :=
  started .setFrequency s fun s => .next (finish (chipSetFrequency s.argFreq s))

/-- GET_FREQUENCY (R275). -/
def execGetFrequency (s : State) : Result :=
  started .getFrequency s fun s => .next (finishWith (frequencyAnswer s) (chipReadFrequency s))

/-- SET_ENCRYPTION_KEY (R276). -/
def execSetEncryptionKey (key : Bool) (s : State) : Result :=
  started (.setEncryptionKey key) s fun s =>
    if key then
      (match keyBytes s with
      | some k => .next (finish (chipSetAesKey k s))
      | none => .fault .noSuchHostAddress)
    else .next (finish (chipSetAesOff s))

end Sys2Proof.Machine
end

