-- ==== Sys2Proof/Machine/ChannelAccess.lean ====
section
/-! DEFINITION. Channel Access: CanSend, the channel-clear wait and their commands (43_channel_access.md R210 to
R213). -/

namespace Sys2Proof.Machine

/-- CanSend takes an RSSI sample: RX with nothing pending (R210). -/
def canSample (s : State) : Bool := decide (s.mode = .rx ∧ s.slot.frameLen = 0)

/-- CanSend's result (R210): the sample is below the threshold, signed and strict. -/
def canSendResult (s : State) : Bool := canSample s && (rssiAnswer s).slt s.params.csmaThreshold

/-- CanSend's effect (R210): the sample if one is taken, and Standby if the channel is claimed. -/
def canSendEffect (s : State) : State :=
  if canSample s then
    (if canSendResult s then setModeNow .standby (chipReadRssi s) else chipReadRssi s)
  else s

/-- CAN_SEND (R211). -/
def execCanSend (s : State) : Result :=
  started .canSend s fun s => .next (finishWith (boolWord (canSendResult s)) (canSendEffect s))

/-- The entry of AwaitClearChannel: T_CSMA <- Now() (R212). -/
def csmaBegin (s : State) : State :=
  { s with work := { s.work with tCsma := s.clock }, phase := .csmaTest }

/-- The segment with CanSend and the deadline test of bound T; done is what follows the wait (R212). -/
def csmaTestSegment (bound : Word) (done : Bool → State → State) (s : State) : State :=
  let t := canSendEffect s
  if canSendResult s then done true t
  else if bound ≤ elapsed t t.work.tCsma then done false t
  else toPhase .csmaPoll t

/-- The segment with ReceiveDone, whose result is discarded (R212). -/
def csmaPollSegment (s : State) : State := receiveDone .csma (toPhase .csmaTest) (toPhase .csmaTest) s

/-- AWAIT_CLEAR_CHANNEL (R213). -/
def execAwaitClearChannel (s : State) : Result :=
  match s.phase with
  | .start => started .awaitClearChannel s fun s => .next (csmaBegin s)
  | .csmaTest => .next (csmaTestSegment s.argTmo (fun r => finishWith (boolWord r)) s)
  | .csmaPoll => .next (csmaPollSegment s)
  | .wake m .csma => .next (wakePoll m (toPhase .csmaTest) s)
  | _ => .fault .phaseMismatch

end Sys2Proof.Machine
end

