-- ==== Sys2Proof/Machine/FrameCodec.lean ====
section
/-! DEFINITION. The Frame Codec: WriteFrame and its command (41_frame_codec.md R151, R152), and the decoder's clamp
(R154, R177). -/

namespace Sys2Proof.Machine

/-- The frame WriteFrame streams: [n + 3, target, own address, control, payload...] (R90, R151). -/
def frameBytes (t own ctl : Byte) (payload : List Byte) : List Byte :=
  BitVec.ofNat 8 (payload.length + 3) :: t :: own :: ctl :: payload

/-- WriteFrame(t, P, L, rq, ar) (R151), and then k. -/
def writeFrameThen (t : Byte) (rq ar : Bool) (k : State → State) (s : State) : Result :=
  match payloadBytes s with
  | none => .fault .noSuchHostAddress
  | some payload =>
    .next (k (fifoWriteFrame (frameBytes t s.ownAddr (buildCtl rq ar) payload)
      { s with work := { s.work with lAcc := BitVec.ofNat 8 (payloadCount s) } }))

/-- WRITE_FRAME (R152). -/
def execWriteFrame (t : Byte) (rq ar : Bool) (s : State) : Result :=
  started (.writeFrame t rq ar) s fun s => writeFrameThen t rq ar finish s

/-- RX_LEN_CLAMP (R5). -/
def rxLenClamp (s : State) : Nat := s.params.rxLenSlack.val + 3

/-- The length clamp: min(raw, RX_LEN_CLAMP) (R154, R177). -/
def clampLen (s : State) (raw : Byte) : Byte := BitVec.ofNat 8 (min raw.toNat (rxLenClamp s))

end Sys2Proof.Machine
end

