-- ==== Sys2Proof/Machine/Delivery.lean ====
section
/-! DEFINITION. The Delivery Protocol: TransmitFrame, SEND, SEND_ACK, ACK_RECEIVED, SEND_WITH_RETRY (44_delivery.md
R230 to R235). -/

namespace Sys2Proof.Machine

/-- What one transmission is given: target, REQUEST_ACK, ACK reply, and what follows TransmitFrame (R230). -/
structure Transmission where
  target : Byte
  reqAck : Bool
  ackReply : Bool
  after : State → State

/-- The head of SEND's body: the RX restart, up to the window before the channel wait (R231). -/
def sendHead (s : State) : State := toPhase .csmaEnter (chipRxRestart s)

/-- TransmitFrame's start: Standby, and then its mode-ready wait (R230). -/
def transmitStart (s : State) : State := setModeThen .standby .txStart (enterReadyWait .txReady) s

/-- The start of the packet-sent wait: T_TX <- Now() (R230). -/
def sentWait (s : State) : State := { s with work := { s.work with tTx := s.clock }, phase := .txSent }

/-- A poll of TransmitFrame's mode-ready wait. The poll that ends it also maps DIO0, writes the frame, enters TX and
starts the packet-sent wait (R230). -/
def transmitReady (x : Transmission) (s : State) : Result :=
  let t := chipReadModeReady s
  if modeReadyAnswer s || modeReadyExpired t then
    writeFrameThen x.target x.reqAck x.ackReply (setModeThen .tx .txSend sentWait) (chipSetDio0Map true t)
  else .next t

/-- A poll of the packet-sent wait. The poll that ends it also returns to Standby (R230). -/
def transmitSent (x : Transmission) (s : State) : State :=
  let t := chipReadPacketSent s
  if s.chip.packetSent || s.params.txTimeout ≤ elapsed t t.work.tTx then setModeThen .standby .txEnd x.after t else t

/-- The units of SEND's body after its head: the channel-clear wait and TransmitFrame (R230, R231). -/
def sendBody (x : Transmission) (s : State) : Result :=
  match s.phase with
  | .csmaEnter => .next (csmaBegin s)
  | .csmaTest => .next (csmaTestSegment s.params.csmaTimeout (fun _ => toPhase .txEnter) s)
  | .csmaPoll => .next (csmaPollSegment s)
  | .txEnter => .next (transmitStart s)
  | .txReady => transmitReady x s
  | .txSent => .next (transmitSent x s)
  | .wake m .csma => .next (wakePoll m (toPhase .csmaTest) s)
  | .wake m .txStart => .next (wakePoll m (enterReadyWait .txReady) s)
  | .wake m .txSend => .next (wakePoll m sentWait s)
  | .wake m .txEnd => .next (wakePoll m x.after s)
  | _ => .fault .phaseMismatch

/-- SEND (R231). -/
def execSend (target : Byte) (reqAck : Bool) (s : State) : Result :=
  match s.phase with
  | .start => started (.send target reqAck) s fun s => .next (sendHead s)
  | _ => sendBody ⟨target, reqAck, false, finish⟩ s

/-- SEND_ACK's save of sender and RSSI (R232). -/
def saveSlot (s : State) : State :=
  { s with work := { s.work with savedSender := s.slot.sender, savedRssi := s.slot.rssi } }

/-- SEND_ACK's restore of both fields (R232). -/
def restoreSlot (s : State) : State :=
  { s with slot := { s.slot with sender := s.work.savedSender, rssi := s.work.savedRssi } }

/-- SEND_ACK (R232). -/
def execSendAck (s : State) : Result :=
  match s.phase with
  | .start => started .sendAck s fun s => .next (sendHead (saveSlot s))
  | _ => sendBody ⟨s.work.savedSender, false, true, fun s => finish (restoreSlot s)⟩ s

/-- The ACK match of a consumed frame (R233). -/
def ackMatches (src : Byte) (s : State) : Bool :=
  (s.slot.sender == src || src == Config.broadcast) && s.slot.ackRcvd

/-- AckReceived(f), and then k with its result (R233); r names what follows a wake wait, whose result is 0. -/
def ackReceivedThen (src : Byte) (r : Resume) (k : Bool → State → State) (s : State) : State :=
  receiveDone r (fun t => k (ackMatches src t) t) (k false) s

/-- ACK_RECEIVED (R234). -/
def execAckReceived (src : Byte) (s : State) : Result :=
  match s.phase with
  | .start =>
    started (.ackReceived src) s fun s =>
      .next (ackReceivedThen src .finish (fun r => finishWith (boolWord r)) s)
  | .wake m .finish => .next (wakePoll m (finishWith (boolWord false)) s)
  | _ => .fault .phaseMismatch

/-- The end of one attempt: ATTEMPT + 1, and the ACK wait starts (R235). -/
def attemptDone (s : State) : State :=
  { s with work := { s.work with attempt := s.work.attempt + 1, tAck := s.clock }, phase := .ackWait }

/-- A poll of the ACK wait: the deadline first, then AckReceived; after the deadline the attempts are counted
(R235). -/
def ackWaitSegment (target retries : Byte) (s : State) : State :=
  if s.argTmo ≤ elapsed s s.work.tAck then
    (if s.work.attempt = retries.setWidth 9 + 1 then finishWith (boolWord false) s else toPhase .retry s)
  else ackReceivedThen target .ackPoll (fun r => if r then finishWith (boolWord true) else toPhase .ackWait) s

/-- SEND_WITH_RETRY (R235): every attempt is SEND's body with REQUEST_ACK. -/
def execSendWithRetry (target retries : Byte) (s : State) : Result :=
  match s.phase with
  | .start =>
    started (.sendWithRetry target retries) s fun s =>
      .next (sendHead { s with work := { s.work with attempt := 0 } })
  | .retry => .next (sendHead s)
  | .ackWait => .next (ackWaitSegment target retries s)
  | .wake m .ackPoll => .next (wakePoll m (toPhase .ackWait) s)
  | _ => sendBody ⟨target, true, false, attemptDone⟩ s

end Sys2Proof.Machine
end

