-- ==== Sys2Proof/Decode.lean ====
section
/-! DEFINITION. The decoder of command words and of frame images, total on any bits, rejecting by name, and after it
the encoder, both written from the tables of 30_encoding.md (R90, R94, R100, R102). -/

namespace Sys2Proof

/-- Why a word or a frame image is no instruction. -/
inductive DecodeError where
  /-- OPC is in no row of R102 (R104). -/
  | undefinedOpcode (opc : Byte)
  /-- OPC is in the table, but a bit of a field the command does not use is set (R103). -/
  | reservedField (mnemonic : String)
  /-- A frame image without a control byte has no class (R97). -/
  | noControlByte
  deriving DecidableEq, Repr

/-! ## Fields of the command word (R100) -/

/-- OPC, bits 31:24. -/
def opcField (w : Word) : Byte := w.extractLsb' 24 8
/-- A, bits 23:16. -/
def aField (w : Word) : Byte := w.extractLsb' 16 8
/-- B, bits 15:8. -/
def bField (w : Word) : Byte := w.extractLsb' 8 8
/-- F, bits 7:0. -/
def fField (w : Word) : Byte := w.extractLsb' 0 8
/-- F[0], REQ_ACK. -/
def fReqAck (f : Byte) : Bool := f.getLsbD 0
/-- F[1], ACK_REPLY. -/
def fAckReply (f : Byte) : Bool := f.getLsbD 1
/-- F[2], ON. -/
def fOn (f : Byte) : Bool := f.getLsbD 2
/-- F[3], KEY_PRESENT. -/
def fKeyPresent (f : Byte) : Bool := f.getLsbD 3

/-- A command word from its four fields (R100). -/
def cmdWord (opc a b f : Byte) : Word := ((opc ++ a : BitVec 16) ++ b : BitVec 24) ++ f

/-- A flag byte with one bit at most, at place n. -/
def flagBit (n : Nat) (b : Bool) : Byte := if b then 1#8 <<< n else 0

/-! ## The opcode table (R102) -/

/-- One row of R102: the mnemonic, OPC, match and mask, and the instruction its fields A, B and F stand for. -/
structure OpcodeRow where
  mnemonic : String
  opc : Byte
  value : Word
  mask : Word
  build : Byte → Byte → Byte → Instr

/-- Rows 0x01 to 0x08: configuration. -/
def configurationRows : List OpcodeRow :=
  [ ⟨"INIT", 0x01, 0x01000000, 0xFF0000FF, fun a b _ => .init a b⟩,
    ⟨"SET_NETWORK", 0x02, 0x02000000, 0xFFFF00FF, fun _ b _ => .setNetwork b⟩,
    ⟨"SET_PROMISCUOUS", 0x03, 0x03000000, 0xFFFFFFFB, fun _ _ f => .setPromiscuous (fOn f)⟩,
    ⟨"SET_POWER_LEVEL", 0x04, 0x04000000, 0xFF00FFFF, fun a _ _ => .setPowerLevel a⟩,
    ⟨"SET_FREQUENCY", 0x05, 0x05000000, 0xFFFFFFFF, fun _ _ _ => .setFrequency⟩,
    ⟨"GET_FREQUENCY", 0x06, 0x06000000, 0xFFFFFFFF, fun _ _ _ => .getFrequency⟩,
    ⟨"SET_ENCRYPTION_KEY", 0x07, 0x07000000, 0xFFFFFFF7, fun _ _ f => .setEncryptionKey (fKeyPresent f)⟩,
    ⟨"SLEEP", 0x08, 0x08000000, 0xFFFFFFFF, fun _ _ _ => .sleep⟩ ]

/-- Rows 0x10 to 0x18: delivery and receive interface. -/
def deliveryRows : List OpcodeRow :=
  [ ⟨"SEND", 0x10, 0x10000000, 0xFF00FFFE, fun a _ f => .send a (fReqAck f)⟩,
    ⟨"SEND_WITH_RETRY", 0x11, 0x11000000, 0xFF0000FF, fun a b _ => .sendWithRetry a b⟩,
    ⟨"SEND_ACK", 0x12, 0x12000000, 0xFFFFFFFF, fun _ _ _ => .sendAck⟩,
    ⟨"ACK_RECEIVED", 0x13, 0x13000000, 0xFF00FFFF, fun a _ _ => .ackReceived a⟩,
    ⟨"ACK_REQUESTED", 0x14, 0x14000000, 0xFFFFFFFF, fun _ _ _ => .ackRequested⟩,
    ⟨"POLL_RECEIVED", 0x18, 0x18000000, 0xFFFFFFFF, fun _ _ _ => .pollReceived⟩ ]

/-- Rows 0x20 to 0x24: the internal primitives. -/
def primitiveRows : List OpcodeRow :=
  [ ⟨"SET_MODE", 0x20, 0x20000000, 0xFF00FFFF, fun a _ _ => .setMode a⟩,
    ⟨"RECEIVE_BEGIN", 0x21, 0x21000000, 0xFFFFFFFF, fun _ _ _ => .receiveBegin⟩,
    ⟨"CAN_SEND", 0x22, 0x22000000, 0xFFFFFFFF, fun _ _ _ => .canSend⟩,
    ⟨"AWAIT_CLEAR_CHANNEL", 0x23, 0x23000000, 0xFFFFFFFF, fun _ _ _ => .awaitClearChannel⟩,
    ⟨"WRITE_FRAME", 0x24, 0x24000000, 0xFF00FFFC, fun a _ f => .writeFrame a (fReqAck f) (fAckReply f)⟩ ]

/-- Rows 0x30 to 0x35: slot accessors. -/
def accessorRows : List OpcodeRow :=
  [ ⟨"GET_SENDER", 0x30, 0x30000000, 0xFFFFFFFF, fun _ _ _ => .getSender⟩,
    ⟨"GET_TARGET", 0x31, 0x31000000, 0xFFFFFFFF, fun _ _ _ => .getTarget⟩,
    ⟨"GET_LENGTH", 0x32, 0x32000000, 0xFFFFFFFF, fun _ _ _ => .getLength⟩,
    ⟨"GET_RSSI", 0x33, 0x33000000, 0xFFFFFFFF, fun _ _ _ => .getRssi⟩,
    ⟨"GET_PAYLOAD_BYTE", 0x34, 0x34000000, 0xFF00FFFF, fun a _ _ => .getPayloadByte a⟩,
    ⟨"GET_ACK_FLAGS", 0x35, 0x35000000, 0xFFFFFFFF, fun _ _ _ => .getAckFlags⟩ ]

/-- The 25 rows of R102. -/
def opcodeTable : List OpcodeRow := configurationRows ++ deliveryRows ++ primitiveRows ++ accessorRows

/-- Decode a command word (R102 to R104): the row with the word's OPC, and then the row's mask and match. -/
def decodeCommand (w : Word) : Except DecodeError Instr :=
  match opcodeTable.find? (fun r => r.opc == opcField w) with
  | none => .error (.undefinedOpcode (opcField w))
  | some r =>
    if w &&& r.mask = r.value then .ok (r.build (aField w) (bField w) (fField w))
    else .error (.reservedField r.mnemonic)

/-! ## Frames (R90, R94, R97) -/

/-- The class of a control byte, CTL[7:6] (R97). -/
def ctlClass (ctl : Byte) : BitVec 2 := ctl.extractLsb' 6 2
/-- CTL[5:0], ignored on receive (R96). -/
def ctlLowBits (ctl : Byte) : BitVec 6 := ctl.extractLsb' 0 6

/-- The frame instruction of a class (R97). -/
def frameOfClass (c : BitVec 2) (f : FrameBody) : Instr :=
  if c = 0 then .frameData f
  else if c = 1 then .frameDataReqack f
  else if c = 2 then .frameAck f
  else .frameAckReqack f

/-- Decode a frame image: index 0 FRAME_LEN, 1 TARGET, 2 SENDER, 3 CTL, then the payload (R90). -/
def decodeFrame : List Byte → Except DecodeError Instr
  | len :: target :: sender :: ctl :: payload =>
    .ok (frameOfClass (ctlClass ctl) ⟨len, target, sender, ctlLowBits ctl, payload⟩)
  | _ => .error .noControlByte

/-- The FIFO image of a frame of class c (R90). -/
def frameImage (c : BitVec 2) (f : FrameBody) : List Byte :=
  f.len :: f.target :: f.sender :: (c ++ f.ctlLow) :: f.payload

/-! ## Encodings -/

/-- What an instruction looks like outside the engine: a command word, a frame image, or the event without a word. -/
inductive Encoding where
  | command (w : Word)
  | frame (bytes : List Byte)
  | event
  deriving DecidableEq, Repr

/-- Decode any encoding. -/
def decode : Encoding → Except DecodeError Instr
  | .command w => decodeCommand w
  | .frame bytes => decodeFrame bytes
  | .event => .ok .capture

/-- Encode an instruction (R90, R100, R102, R107). -/
def encode : Instr → Encoding
  | .init a n => .command (cmdWord 0x01 a n 0)
  | .setNetwork n => .command (cmdWord 0x02 0 n 0)
  | .setPromiscuous on => .command (cmdWord 0x03 0 0 (flagBit 2 on))
  | .setPowerLevel p => .command (cmdWord 0x04 p 0 0)
  | .setFrequency => .command (cmdWord 0x05 0 0 0)
  | .getFrequency => .command (cmdWord 0x06 0 0 0)
  | .setEncryptionKey k => .command (cmdWord 0x07 0 0 (flagBit 3 k))
  | .sleep => .command (cmdWord 0x08 0 0 0)
  | .send t rq => .command (cmdWord 0x10 t 0 (flagBit 0 rq))
  | .sendWithRetry t r => .command (cmdWord 0x11 t r 0)
  | .sendAck => .command (cmdWord 0x12 0 0 0)
  | .ackReceived f => .command (cmdWord 0x13 f 0 0)
  | .ackRequested => .command (cmdWord 0x14 0 0 0)
  | .pollReceived => .command (cmdWord 0x18 0 0 0)
  | .setMode m => .command (cmdWord 0x20 m 0 0)
  | .receiveBegin => .command (cmdWord 0x21 0 0 0)
  | .canSend => .command (cmdWord 0x22 0 0 0)
  | .awaitClearChannel => .command (cmdWord 0x23 0 0 0)
  | .writeFrame t rq ar => .command (cmdWord 0x24 t 0 (flagBit 0 rq ||| flagBit 1 ar))
  | .getSender => .command (cmdWord 0x30 0 0 0)
  | .getTarget => .command (cmdWord 0x31 0 0 0)
  | .getLength => .command (cmdWord 0x32 0 0 0)
  | .getRssi => .command (cmdWord 0x33 0 0 0)
  | .getPayloadByte i => .command (cmdWord 0x34 i 0 0)
  | .getAckFlags => .command (cmdWord 0x35 0 0 0)
  | .capture => .event
  | .frameData f => .frame (frameImage 0 f)
  | .frameDataReqack f => .frame (frameImage 1 f)
  | .frameAck f => .frame (frameImage 2 f)
  | .frameAckReqack f => .frame (frameImage 3 f)

/-- The frame image a table row of 8 bits stands for: its control byte is w and every other byte is 0 (A6). -/
def tableFrame (w : Nat) : List Byte := [0, 0, 0, BitVec.ofNat 8 w]

/-- The instruction the decoder reads from a row's bits as spec/opcode_table.json numbers them: a command row has
32 bits, a frame row the 8 bits of the control byte, and the CAPTURE row none (A5, A6). -/
def decodeTableWord (nbits w : Nat) : Option Instr :=
  if nbits = 32 then (decodeCommand (BitVec.ofNat 32 w)).toOption
  else if nbits = 8 then (decodeFrame (tableFrame w)).toOption
  else if nbits = 0 then some .capture
  else none

end Sys2Proof
end

