-- ==== Sys2Proof/Machine/Frames.lean ====
section
/-! DEFINITION. The four received frame classes (30_encoding.md R97) as instructions: the arrival of such a frame at
the chip, one ENV unit (60_exceptions.md R316). The capture then reads the frame (42_receive_pipeline.md R175). -/

namespace Sys2Proof.Machine

/-- Frame arrival is possible only in RX with no frame waiting (R316). -/
def canArrive (s : State) : Bool := s.chipMode == .rx && !s.chip.payloadReady

/-- Frame arrival (R316): the FIFO holds the frame's bytes and payload ready rises. A frame that cannot arrive is
never received. -/
def frameArrives (bytes : List Byte) (s : State) : Result :=
  if s.chip.opMode = s.chipMode then
    .next (if canArrive s then { s with chip := { s.chip with payloadReady := true, rxFifo := bytes } } else s)
  else .refused .chipOutOfStep

/-- FRAME_DATA arrives. -/
def execFrameData (f : FrameBody) (s : State) : Result := frameArrives (frameImage 0 f) s

/-- FRAME_DATA_REQACK arrives. -/
def execFrameDataReqack (f : FrameBody) (s : State) : Result := frameArrives (frameImage 1 f) s

/-- FRAME_ACK arrives. -/
def execFrameAck (f : FrameBody) (s : State) : Result := frameArrives (frameImage 2 f) s

/-- FRAME_ACK_REQACK arrives. -/
def execFrameAckReqack (f : FrameBody) (s : State) : Result := frameArrives (frameImage 3 f) s

end Sys2Proof.Machine
end

