-- ==== Sys2Proof/Machine/ModeController.lean ====
section
/-! DEFINITION. The Mode Controller's commands (40_mode_controller.md R134, R135). -/

namespace Sys2Proof.Machine

/-- SetMode(m) as a whole command: its first unit at phase 0, then the polls of its wake wait (R130, R134). -/
def setModeCommand (i : Instr) (m : Mode) (s : State) : Result :=
  match s.phase with
  | .start => started i s fun s => .next (setModeThen m .finish finish s)
  | .wake m' .finish => .next (wakePoll m' finish s)
  | _ => .fault .phaseMismatch

/-- SET_MODE (R134). Codes above 4 fault at decode; the mode of the wake wait is held by the phase. -/
def execSetMode (code : Byte) (s : State) : Result :=
  match modeOfCode code with
  | some m => setModeCommand (.setMode code) m s
  | none => started (.setMode code) s fun s => .next s

/-- SLEEP (R135): its SetMode never leaves Sleep, so it has one segment. -/
def execSleep (s : State) : Result := started .sleep s fun s => .next (finish (setModeNow .sleep s))

end Sys2Proof.Machine
end

