-- ==== Sys2Proof/Machine/ReceivePipeline.lean ====
section
/-! DEFINITION. The Receive Pipeline: re-arm and poll commands, the capture, the slot accessors
(42_receive_pipeline.md R171 to R187). -/

namespace Sys2Proof.Machine

/-- RECEIVE_BEGIN (R172). -/
def execReceiveBegin (s : State) : Result :=
  match s.phase with
  | .start => started .receiveBegin s fun s => .next (receiveBeginThen .finish finish s)
  | .wake m .finish => .next (wakePoll m finish s)
  | _ => .fault .phaseMismatch

/-- POLL_RECEIVED (R174). -/
def execPollReceived (s : State) : Result :=
  match s.phase with
  | .start =>
    started .pollReceived s fun s =>
      .next (receiveDone .finish (finishWith (boolWord true)) (finishWith (boolWord false)) s)
  | .wake m .finish => .next (wakePoll m (finishWith (boolWord false)) s)
  | _ => .fault .phaseMismatch

/-! ## The capture (R175 to R179) -/

/-- Accept(len, tgt) (R176). -/
def accepts (s : State) (len tgt : Byte) : Bool :=
  (s.promisc || tgt == s.ownAddr || tgt == Config.broadcast) && decide (3 ≤ len.toNat)

/-- StorePayload's buffer: the first bytes of the payload, the terminator where there is room, and the old bytes
above it (R178). -/
def storedPayload (pay : List Byte) (old : Vector Byte 61) : Vector Byte 61 :=
  Vector.ofFn fun i =>
    if i.val < pay.length then pay.getD i.val 0 else if i.val = pay.length then 0 else old[i]

/-- The reject path: the header is read, the pending length ends at 0, and the receiver is re-armed (R175). -/
def captureReject (s : State) : State :=
  let t := bus (.fifoRead (fifoBytes s 0 2))
    (fun t => fifoPop 2 { t with slot := { t.slot with target := fifoByte s 1, frameLen := 0 } }) s
  setModeNow .rx (rearm t)

/-- The accept path: the whole frame is read and stored, the rest of the FIFO is discarded and payload ready falls
(R175, R178, R316), and the radio goes back to RX without a ReceiveBegin. -/
def captureAccept (len : Byte) (s : State) : State :=
  let d := len.toNat - 3
  let ctl := fifoByte s 3
  let pay := fifoBytes s 4 d
  let t := bus (.fifoRead (fifoBytes s 0 (d + 4)))
    (fun t =>
      let u := fifoPop (d + 4) t
      { u with
        slot :=
          { u.slot with
            frameLen := len
            target := fifoByte s 1
            sender := fifoByte s 2
            ackRcvd := ctlAckRcvd ctl
            ackReq := ctlAckReq ctl
            dataLen := BitVec.ofNat 8 (min d Config.rxBufCap)
            payload := storedPayload pay u.slot.payload }
        chip := { u.chip with payloadReady := false, rxFifo := [] } }) s
  setModeNow .rx t

/-- The frame part of a capture that is not spurious: leave RX, read, filter, accept or reject (R175). -/
def captureFrame (s : State) : State :=
  let t := setModeNow .standby s
  let len := clampLen t (fifoByte t 0)
  if accepts t len (fifoByte t 1) then captureAccept len t else captureReject t

/-- The RSSI sample that ends every capture that is not spurious (R179). -/
def sampleRssi (s : State) : State :=
  let t := chipReadRssi s
  { t with slot := { t.slot with rssi := rssiAnswer s } }

/-- CAPTURE: one run of CAP from entry to exit (R175, R309). The payload-ready read happens in every run (R310). -/
def execCapture (s : State) : Result :=
  let t := chipReadPayloadReady (capEntry s)
  if s.mode = .rx ∧ s.chip.payloadReady = true then .next (capExit (sampleRssi (captureFrame t)))
  else .next (capExit t)

/-! ## Slot accessors (R180 to R187) -/

/-- A slot accessor of one segment: the decode checks, then finish with a value of the slot (R181 template). -/
def slotCommand (i : Instr) (value : Slot → Word) (s : State) : Result :=
  started i s fun s => .next (finishWith (value s.slot) s)

/-- GET_SENDER (R181). -/
def execGetSender (s : State) : Result := slotCommand .getSender (fun r => byteWord r.sender) s

/-- GET_TARGET (R182). -/
def execGetTarget (s : State) : Result := slotCommand .getTarget (fun r => byteWord r.target) s

/-- GET_LENGTH (R183). -/
def execGetLength (s : State) : Result := slotCommand .getLength (fun r => byteWord r.dataLen) s

/-- GET_RSSI (R184). -/
def execGetRssi (s : State) : Result := slotCommand .getRssi (fun r => rssiWord r.rssi) s

/-- GET_PAYLOAD_BYTE (R185); an index of 61 and above faults at decode. -/
def execGetPayloadByte (index : Byte) (s : State) : Result :=
  slotCommand (.getPayloadByte index) (fun r => byteWord (r.payload.toList.getD index.toNat 0)) s

/-- GET_ACK_FLAGS (R186). -/
def execGetAckFlags (s : State) : Result := slotCommand .getAckFlags (fun r => ackFlagsWord r.ackRcvd r.ackReq) s

/-- ACK_REQUESTED (R187): not for a broadcast target. -/
def execAckRequested (s : State) : Result :=
  slotCommand .ackRequested (fun r => boolWord (r.ackReq && r.target != Config.broadcast)) s

end Sys2Proof.Machine
end

