-- ==== Sys2Proof/Machine/Dispatch.lean ====
section
/-! DEFINITION. exec: one arm per constructor of Instr, each one call of the instruction's meaning. A meaning is one
atomic unit: a command's unit at the sequencer's phase (10_state.md R49), one capture run, or one frame arrival. -/

namespace Sys2Proof.Machine

def exec (i : Instr) (s : State) : Host.Outcome State Fault Refusal :=
  match i with
  | .init addr net => Sys2Proof.Machine.execInit addr net s
  | .setNetwork net => Sys2Proof.Machine.execSetNetwork net s
  | .setPromiscuous on => Sys2Proof.Machine.execSetPromiscuous on s
  | .setPowerLevel level => Sys2Proof.Machine.execSetPowerLevel level s
  | .setFrequency => Sys2Proof.Machine.execSetFrequency s
  | .getFrequency => Sys2Proof.Machine.execGetFrequency s
  | .setEncryptionKey key => Sys2Proof.Machine.execSetEncryptionKey key s
  | .sleep => Sys2Proof.Machine.execSleep s
  | .send target reqAck => Sys2Proof.Machine.execSend target reqAck s
  | .sendWithRetry target retries => Sys2Proof.Machine.execSendWithRetry target retries s
  | .sendAck => Sys2Proof.Machine.execSendAck s
  | .ackReceived src => Sys2Proof.Machine.execAckReceived src s
  | .ackRequested => Sys2Proof.Machine.execAckRequested s
  | .pollReceived => Sys2Proof.Machine.execPollReceived s
  | .setMode code => Sys2Proof.Machine.execSetMode code s
  | .receiveBegin => Sys2Proof.Machine.execReceiveBegin s
  | .canSend => Sys2Proof.Machine.execCanSend s
  | .awaitClearChannel => Sys2Proof.Machine.execAwaitClearChannel s
  | .writeFrame target reqAck ackReply => Sys2Proof.Machine.execWriteFrame target reqAck ackReply s
  | .getSender => Sys2Proof.Machine.execGetSender s
  | .getTarget => Sys2Proof.Machine.execGetTarget s
  | .getLength => Sys2Proof.Machine.execGetLength s
  | .getRssi => Sys2Proof.Machine.execGetRssi s
  | .getPayloadByte index => Sys2Proof.Machine.execGetPayloadByte index s
  | .getAckFlags => Sys2Proof.Machine.execGetAckFlags s
  | .capture => Sys2Proof.Machine.execCapture s
  | .frameData f => Sys2Proof.Machine.execFrameData f s
  | .frameDataReqack f => Sys2Proof.Machine.execFrameDataReqack f s
  | .frameAck f => Sys2Proof.Machine.execFrameAck f s
  | .frameAckReqack f => Sys2Proof.Machine.execFrameAckReqack f s

end Sys2Proof.Machine
end

