-- ==== Sys2Proof/Machine/HostBlock.lean ====
section
/-! DEFINITION. The host register block (20_memory.md R61, R62, R75) and the other moves of HOST and ENV that are no
instruction: host memory stores (R63), bring-up (R342), packet sent and the clock tick (R314, R316). -/

namespace Sys2Proof.Machine

/-- The registers of the block (R75). -/
inductive HostReg where
  | cmd | argLen | argPtr | argTmo | argFreq | result | status | faultInfo
  deriving DecidableEq, Repr

/-- The register a 32-bit access at an offset reaches (R61, R75); no other access has a meaning. -/
def hostReg (width offset : Nat) : Option HostReg :=
  if width ≠ 32 then none
  else if offset = 0x00 then some .cmd
  else if offset = 0x04 then some .argLen
  else if offset = 0x08 then some .argPtr
  else if offset = 0x0C then some .argTmo
  else if offset = 0x10 then some .argFreq
  else if offset = 0x14 then some .result
  else if offset = 0x18 then some .status
  else if offset = 0x1C then some .faultInfo
  else none

/-- What a host read returns (R22 to R29). -/
def hostRead (r : HostReg) (s : State) : Word :=
  match r with
  | .cmd => s.cmd
  | .argLen => byteWord s.argLen
  | .argPtr => s.argPtr.setWidth 32
  | .argTmo => s.argTmo
  | .argFreq => s.argFreq
  | .result => s.result
  | .status => statusWord s
  | .faultInfo => s.faultInfo

/-- A write of CMD while idle latches the word and starts the command at phase 0 (R62, R302). -/
def startCommand (w : Word) (s : State) : State :=
  { s with cmd := w, curCmd := w, busy := true, phase := .start }

/-- A host write to a register while BUSY = 0 and no fault is latched (R62). -/
def writeIdle (r : HostReg) (v : Word) (s : State) : State :=
  match r with
  | .cmd => startCommand v s
  | .argLen => { s with argLen := v.setWidth 8 }
  | .argPtr => { s with argPtr := v.setWidth 16 }
  | .argTmo => { s with argTmo := v }
  | .argFreq => { s with argFreq := v }
  | .result | .status | .faultInfo => s

/-- A host register write (R62, R304, R305): ignored under a latched fault, F_BUSY while BUSY = 1. -/
def hostWrite (r : HostReg) (v : Word) (s : State) : State :=
  if s.faultCode ≠ .none then s
  else if s.busy then raiseFault .busy s
  else writeIdle r v s

/-- A host read as a unit: the word goes to the host, and no register changes (R62, R76). -/
def hostReadUnit (r : HostReg) (s : State) : State := { s with hostData := hostRead r s }

/-- The host stores a byte in its data memory, which it does only while BUSY = 0 (R63). -/
def hostStore (a : BitVec 16) (b : Byte) (s : State) : Result :=
  if s.busy then .refused .hostMemoryWhileBusy
  else .next { s with hostMem := memWrite s.hostMem a.toNat b }

/-- Chip bring-up by the host (R342 step 1): Standby, both flags 0. DESIGN CHOICE (A39): R342 places it before INIT; the
model runs it at any time, in the middle of a command too, and leaves CHIP_MODE as it is. -/
def bringUpEvent (s : State) : State :=
  { s with chip := { s.chip with opMode := .standby, payloadReady := false, packetSent := false } }

/-- Packet sent is possible only in TX with a frame loaded (R316). -/
def canComplete (s : State) : Bool := s.chipMode == .tx && s.chip.txLoaded

/-- The chip has sent the frame of the last WriteFrame (R316). -/
def packetSentEvent (s : State) : Result :=
  if s.chip.opMode = s.chipMode then
    .next (if canComplete s then
      { s with chip := { s.chip with air := s.chip.air ++ [s.chip.txFrame], packetSent := true, txLoaded := false } }
      else s)
  else .refused .chipOutOfStep

/-- A clock tick (R314). -/
def tickEvent (s : State) : State := { s with clock := s.clock + 1 }

end Sys2Proof.Machine
end

