-- ==== Sys2Proof/Machine/Sequencer.lean ====
section
/-! DEFINITION. Which unit comes next (60_exceptions.md R308, 20_memory.md R68): the engine's own unit, CAP before APP,
and the moves of HOST and ENV. -/

namespace Sys2Proof.Machine

/-- One APP unit: the running command's word is decoded, and its instruction runs (R302, R73). -/
def appUnit (s : State) : Result :=
  match decodeCommand s.curCmd with
  | .ok i => exec i s
  | .error _ => .next (raiseFault .illegalCommand s)

/-- The engine's next unit: CAP if it can start; nothing while a fault is latched (R304) or while IDLE (R341); else
the running command (R308). The edge latch follows the unit (R307). -/
def engineUnit (s : State) : Result :=
  if captureDue s then latched s (exec .capture s)
  else if s.faultCode = .none ∧ s.busy = true then latched s (appUnit s)
  else .next s

/-- A frame on the air: the chip delivers only frames of its network (R316), and a frame of four bytes or more is an
instruction of its class. -/
def frameUnit (net : Byte) (bytes : List Byte) (s : State) : Result :=
  if net = s.chip.netId then
    (match decodeFrame bytes with
    | .ok i => exec i s
    | .error _ => frameArrives bytes s)
  else .next s

/-- One move of HOST or ENV. Reset and bring-up are not units the latch follows (A18). -/
def inputUnit (i : Input) (s : State) : Result :=
  match i with
  | .engine => engineUnit s
  | .hostWrite width offset v =>
    (match hostReg width offset with
    | some r => latched s (.next (hostWrite r v s))
    | none => .refused .hostAccess)
  | .hostRead width offset =>
    (match hostReg width offset with
    | some r => latched s (.next (hostReadUnit r s))
    | none => .refused .hostAccess)
  | .hostMemWrite a b => hostStore a b s
  | .reset => .next (resetEvent s)
  | .bringUp => .next (bringUpEvent s)
  | .frame net bytes => latched s (frameUnit net bytes s)
  | .packetSent => latched s (packetSentEvent s)
  | .tick => latched s (.next (tickEvent s))

/-- A command word where the sequencer takes its next command: as a host write of CMD leaves it, with nothing due
before it. -/
def placeCommand (w : Word) (s : State) : State :=
  { startCommand w s with faultCode := .none, irqPending := false, inputs := [] }

/-- A frame on the air of the chip's own network as the next move. -/
def placeFrame (bytes : List Byte) (s : State) : State := { s with inputs := [.frame s.chip.netId bytes] }

/-- A pending interrupt that can be delivered as the next unit (R308). -/
def placeCapture (s : State) : State :=
  { s with irqPending := true, ie := true, inIsr := false, faultCode := .none, inputs := [] }

end Sys2Proof.Machine
end

