-- ==== Sys2Proof/Machine/Step.lean ====
section
/-! DEFINITION. The step: the next outside move, or the engine's own unit when none is listed (20_memory.md R68);
and where the interface places an instruction. -/

namespace Sys2Proof.Machine

/-- One atomic unit of the machine. -/
def step (s : State) : Host.Outcome State Fault Refusal :=
  match s.inputs with
  | [] => engineUnit s
  | i :: rest => inputUnit i { s with inputs := rest }

/-- s with an instruction placed so that the very next step runs it (A3): a command word as a host write of CMD leaves
it, a frame row as a frame on the air, the CAPTURE row as a pending interrupt. -/
def State.withFetchWord (s : State) (nbits w : Nat) : State :=
  if nbits = 8 then placeFrame (tableFrame w) s
  else if nbits = 0 then placeCapture s
  else placeCommand (BitVec.ofNat 32 w) s

end Sys2Proof.Machine
end

