-- ==== Sys2Proof/Safety.lean ====
section
/-! DEFINITION. What counts as safe, in the terms the statements use: outcomes with a property, the faults a command
takes, and the invariants of the machine. -/

namespace Sys2Proof.Machine

/-! ## Outcomes -/

/-- If the outcome is a next state, the state has a property. -/
def Ensures (o : Result) (P : State → Prop) : Prop := ∀ t, o = .next t → P t

/-- The outcome is no fault of the model. -/
def FaultFree (o : Result) : Prop := ∀ r, o ≠ .fault r

/-- The next state of a unit that raises an engine fault (R303): three registers and nothing else. -/
def faultTaken (c : FaultCode) (s : State) : Result :=
  .next { s with faultCode := c, faultInfo := s.curCmd, busy := true }

/-- The instructions with a command word (R102). -/
def isCommand (i : Instr) : Bool :=
  match encode i with
  | .command _ => true
  | _ => false

/-- The rows whose rule gives a RESULT (R108, R6); no other unit writes it. -/
def writesResult : Instr → Bool
  | .getFrequency | .sendWithRetry _ _ | .ackReceived _ | .ackRequested | .pollReceived | .canSend | .awaitClearChannel
  | .getSender | .getTarget | .getLength | .getRssi | .getPayloadByte _ | .getAckFlags => true
  | .init _ _ | .setNetwork _ | .setPromiscuous _ | .setPowerLevel _ | .setFrequency | .setEncryptionKey _ | .sleep
  | .send _ _ | .sendAck | .setMode _ | .receiveBegin | .writeFrame _ _ _
  | .capture | .frameData _ | .frameDataReqack _ | .frameAck _ | .frameAckReqack _ => false

/-- The rows that write a frame into the transmit FIFO (R151, R230). -/
def writesFrame : Instr → Bool
  | .send _ _ | .sendWithRetry _ _ | .sendAck | .writeFrame _ _ _ => true
  | .init _ _ | .setNetwork _ | .setPromiscuous _ | .setPowerLevel _ | .setFrequency | .getFrequency
  | .setEncryptionKey _ | .sleep | .ackReceived _ | .ackRequested | .pollReceived | .setMode _ | .receiveBegin
  | .canSend | .awaitClearChannel | .getSender | .getTarget | .getLength | .getRssi | .getPayloadByte _ | .getAckFlags
  | .capture | .frameData _ | .frameDataReqack _ | .frameAck _ | .frameAckReqack _ => false

/-- The next move is not the reset input. -/
def NoReset (s : State) : Prop := s.inputs.head? ≠ some .reset

/-- It is the engine's turn (R308): no outside move comes first. -/
def EngineTurn (s : State) : Prop := s.inputs = [] ∨ s.inputs.head? = some .engine

/-- The state a unit starts from: its own move is taken off the list. -/
def afterMove (s : State) : State := { s with inputs := s.inputs.tail }

/-- The mode-ready bound is reached at Now() (R132). -/
def ReadyBoundReached (s : State) : Prop :=
  ∃ bound, s.params.modeReadyTimeout = some bound ∧ bound ≤ s.clock - s.work.tMr

/-! ## Invariants -/

/-- At every window IE = 1 and IN_ISR = 0 (R70). -/
def WindowOpen (s : State) : Prop := s.ie = true ∧ s.inIsr = false

/-- The windows of the channel-clear wait and TransmitFrame, which SEND, SEND_ACK and SEND_WITH_RETRY share
(R230, R231). -/
def sendPhase : Phase → Bool
  | .csmaEnter | .csmaTest | .csmaPoll | .txEnter | .txReady | .txSent => true
  | .wake .rx .csma | .wake .standby .txStart | .wake .tx .txSend | .wake .standby .txEnd => true
  | _ => false

/-- The positions of an instruction's pseudocode (R49, R69). -/
def ownsPhase (i : Instr) (p : Phase) : Bool :=
  match i with
  | .setMode a =>
    (match p with
    | .start => true
    | .wake m .finish => modeOfCode a == some m
    | _ => false)
  | .receiveBegin | .pollReceived | .ackReceived _ => p == .start || p == .wake .rx .finish
  | .awaitClearChannel => p == .start || p == .csmaTest || p == .csmaPoll || p == .wake .rx .csma
  | .send _ _ | .sendAck => p == .start || sendPhase p
  | .sendWithRetry _ _ => p == .start || p == .retry || p == .ackWait || p == .wake .rx .ackPoll || sendPhase p
  | _ => p == .start

/-- The sequencer's invariant (R49, R63): IDLE is at the start position; a running command is at a position of its own
pseudocode, and past its start it has passed the range check of R63. -/
def SequencerLegal (s : State) : Prop :=
  (s.busy = false → s.phase = .start) ∧
  (s.phase ≠ .start →
    ∃ i, decodeCommand s.curCmd = .ok i ∧ ownsPhase i s.phase = true ∧ hostRangeOk i s = true)

/-- MODE, CHIP_MODE and HP_ON agree (R36, R131): CHIP_MODE is MODE, except in a wake wait, where MODE still holds Sleep;
TransmitFrame's waits are in Standby and TX; and on the high-power variant the amplifiers are on in TX and off in RX. -/
def ModesAgree (s : State) : Prop :=
  (match s.phase with
   | .wake m _ => s.mode = .sleep ∧ s.chipMode = m ∧ m ≠ .sleep
   | .txReady => s.chipMode = s.mode ∧ s.mode = .standby
   | .txSent => s.chipMode = s.mode ∧ s.mode = .tx
   | _ => s.chipMode = s.mode) ∧
  (s.params.hpVariant = true → (s.chipMode = .tx → s.hpOn = true) ∧ (s.chipMode = .rx → s.hpOn = false)) ∧
  (s.params.hpVariant = false → s.hpOn = false)

/-- The retry bound (R235, R236): while an attempt transmits, at most B attempts are behind it; after it, at least one
and at most B + 1. -/
def RetryBounded (s : State) : Prop :=
  ∀ t r, decodeCommand s.curCmd = .ok (.sendWithRetry t r) →
    match s.phase with
    | .start => True
    | .ackWait | .wake _ .ackPoll => 1 ≤ s.work.attempt.toNat ∧ s.work.attempt.toNat ≤ r.toNat + 1
    | _ => s.work.attempt.toNat ≤ r.toNat

/-- A frame the engine may transmit (R90, R91, R95): its length byte counts the bytes after it, its payload is at most
61 bytes, and its control byte is 0, REQUEST_ACK or SEND_ACK. -/
def frameTransmittable : List Byte → Bool
  | len :: _ :: _ :: ctl :: payload =>
    len.toNat == payload.length + 3 && payload.length ≤ 61 && (ctl == 0x00 || ctl == 0x40 || ctl == 0x80)
  | _ => false

/-- Every frame on the air, and the one loaded for transmission, is transmittable. -/
def AirLegal (s : State) : Prop :=
  (∀ f ∈ s.chip.air, frameTransmittable f = true) ∧
  (s.chip.txLoaded = true → frameTransmittable s.chip.txFrame = true)

/-- RX_FRAME_LEN is 0 or a clamped length of 3 or more, and RX_DATA_LEN is the payload length it stands for, capped at
61 (R38, R39). -/
def SlotLegal (s : State) : Prop :=
  (s.slot.frameLen = 0 ∧ s.slot.dataLen = 0) ∨
  (3 ≤ s.slot.frameLen.toNat ∧ s.slot.frameLen.toNat ≤ rxLenClamp s ∧
    s.slot.dataLen.toNat = min (s.slot.frameLen.toNat - 3) 61)

/-- OWN_ADDR is a node address (R30). -/
def OwnAddrLegal (s : State) : Prop := s.ownAddr ≠ 255

end Sys2Proof.Machine
end

