-- ==== Sys2Proof/Certificates/Slice0/Obligations.lean ====
section
/-! DEFINITION. The statements for the provers. Each docstring names the rule of spec/ a statement formalises; an
equation `exec i s = .next t` with t written as an update of s is a result and a frame at once: what the update does
not name is unchanged. Every field written without a condition is the rule's; `busTrace` is the model's own record of
the bus transactions (R320). -/

open Sys2Proof Sys2Proof.Machine

/-! ## Encoding -/

/-- R90, R100, R102, R107: the encoder and the decoder agree, with every operand at every value. -/
def Obligations.DecodeOfEncode : Prop := ∀ i : Instr, decode (encode i) = .ok i

/-- R100, R103, R90: a word or a frame image that decodes is the encoding of what it decodes to, so no bit is dropped. -/
def Obligations.EncodeOfDecode : Prop := ∀ (e : Encoding) (i : Instr), decode e = .ok i → encode i = e

/-- R102: a word selects the row of the opcode table it matches, whose instruction is built from its fields A, B and F;
a word that matches no row is no command; and no word matches two rows. -/
def Obligations.DecodeMatchesRow : Prop :=
  ∀ w : Word,
    (∀ r ∈ opcodeTable, w &&& r.mask = r.value →
      decodeCommand w = .ok (r.build (w.extractLsb' 16 8) (w.extractLsb' 8 8) (w.extractLsb' 0 8))) ∧
    ((∀ r ∈ opcodeTable, w &&& r.mask ≠ r.value) → ∃ e, decodeCommand w = .error e) ∧
    (∀ j k : Fin opcodeTable.length, w &&& opcodeTable[j].mask = opcodeTable[j].value →
      w &&& opcodeTable[k].mask = opcodeTable[k].value → j = k)


/-- R134, R231, R235, R270, R272 (their examples): words of the spec decode to the commands they stand for. -/
def Obligations.SpecWordsDecode : Prop :=
  decodeCommand 0x20040000 = .ok (.setMode 4) ∧ decodeCommand 0x10020001 = .ok (.send 2 true) ∧
  decodeCommand 0x11020200 = .ok (.sendWithRetry 2 2) ∧ decodeCommand 0x01012100 = .ok (.init 1 0x21) ∧
  decodeCommand 0x03000004 = .ok (.setPromiscuous true) ∧ decodeCommand 0x24020001 = .ok (.writeFrame 2 true false) ∧
  decodeCommand 0x343D0000 = .ok (.getPayloadByte 61) ∧ decodeCommand 0x33000000 = .ok .getRssi ∧
  decodeCommand 0x23000000 = .ok .awaitClearChannel ∧
  decodeFrame [7, 2, 1, 0x40, 0x50, 0x49, 0x4E, 0x47] = .ok (.frameDataReqack ⟨7, 2, 1, 0, [0x50, 0x49, 0x4E, 0x47]⟩)

/-! ## The step -/

/-- A step runs the decoded instruction (R302, R73): at the engine's turn, with no capture due and no fault latched, the
running command's word decides, and the unit is exec of what it decodes to, followed by the edge latch (R307). -/
def Obligations.StepRunsDecodedCommand : Prop :=
  ∀ (s : State) (i : Instr), EngineTurn s → captureDue s = false → s.faultCode = .none → s.busy = true →
    decodeCommand s.curCmd = .ok i → step s = latched (afterMove s) (exec i (afterMove s))

/-- R103, R104: a word that matches no row of the opcode table, for its OPC or for a set bit of an unused field, raises
F_ILLEGAL_COMMAND with no other effect. -/
def Obligations.IllegalWordFaults : Prop :=
  ∀ s : State, EngineTurn s → captureDue s = false → s.faultCode = .none → s.busy = true →
    (∀ r ∈ opcodeTable, s.curCmd &&& r.mask ≠ r.value) →
    step s = .next { s with
      inputs := s.inputs.tail, faultCode := .illegalCommand, faultInfo := s.curCmd, busy := true }

/-- R308: a capture is due exactly when the interrupt is pending and enabled outside the handler with no fault latched;
and when it is due at the engine's turn, it is the unit that runs. -/
def Obligations.CaptureRunsFirst : Prop :=
  ∀ s : State,
    (captureDue s = true ↔ s.irqPending = true ∧ s.ie = true ∧ s.inIsr = false ∧ s.faultCode = .none) ∧
    (EngineTurn s → captureDue s = true → step s = latched (afterMove s) (exec .capture (afterMove s)))

/-- R316, R314, R342: the moves of ENV and bring-up, each one step. A frame of the chip's network is the unit of the
instruction of its class (the model's choice, entry 4), and one of another network never arrives. Packet sent, in TX with
a frame loaded, puts that frame on the air and raises the DIO0 edge of R307 where DIO0 is mapped to it; otherwise it is
nothing (entry 19). A tick adds 1 to the clock, mod 2^32. Bring-up sets the chip alone, at any time (entry 39). While the
chip is out of step, packet sent is refused (entry 20). -/
def Obligations.EnvironmentMoves : Prop :=
  ∀ (s : State) (rest : List Input),
    (∀ (net : Byte) (bytes : List Byte) (i : Instr), s.inputs = .frame net bytes :: rest → decodeFrame bytes = .ok i →
      (net = s.chip.netId → step s = latched (afterMove s) (exec i (afterMove s))) ∧
      (net ≠ s.chip.netId → step s = .next (afterMove s))) ∧
    (s.inputs = .packetSent :: rest →
      (s.chip.opMode = s.chipMode → s.chipMode = .tx → s.chip.txLoaded = true →
        step s = .next { s with
          inputs := rest
          chip := { s.chip with air := s.chip.air ++ [s.chip.txFrame], packetSent := true, txLoaded := false }
          irqPending := if s.dio0Map = true ∧ s.chip.packetSent = false then true else s.irqPending }) ∧
      (s.chip.opMode = s.chipMode → s.chipMode ≠ .tx ∨ s.chip.txLoaded = false →
        step s = .next { s with inputs := rest }) ∧
      (s.chip.opMode ≠ s.chipMode → step s = .refused .chipOutOfStep)) ∧
    (s.inputs = .tick :: rest →
      ∃ t, step s = .next t ∧ t.clock.toNat = (s.clock.toNat + 1) % 2 ^ 32 ∧
        t = { s with inputs := rest, clock := t.clock }) ∧
    (s.inputs = .bringUp :: rest →
      step s = .next { s with
        inputs := rest, chip := { s.chip with opMode := .standby, payloadReady := false, packetSent := false } })

/-- R307: the latch sets IRQ_PENDING on a rising edge of DIO0 and does nothing else. -/
def Obligations.RisingEdgeLatches : Prop :=
  ∀ s t : State,
    (dio0 s = false → dio0 t = true → latchEdge s t = { t with irqPending := true }) ∧
    (dio0 s = true ∨ dio0 t = false → latchEdge s t = t) ∧
    dio0 s = ((s.dio0Map == false && s.chip.payloadReady) || (s.dio0Map == true && s.chip.packetSent))

/-! ## Host register block and decode checks -/

/-- R62, R305, R304: host writes and reads of a register. -/
def Obligations.HostRegisterRules : Prop :=
  ∀ (s : State) (v : Word),
    (s.faultCode ≠ .none → ∀ r, hostWrite r v s = s) ∧
    (s.faultCode = .none → s.busy = true → ∀ r,
      hostWrite r v s = { s with faultCode := .busy, faultInfo := s.curCmd, busy := true }) ∧
    (s.faultCode = .none → s.busy = false →
      hostWrite .cmd v s = { s with cmd := v, curCmd := v, busy := true, phase := .start } ∧
      hostWrite .argLen v s = { s with argLen := v.extractLsb' 0 8 } ∧
      hostWrite .argPtr v s = { s with argPtr := v.extractLsb' 0 16 } ∧
      hostWrite .argTmo v s = { s with argTmo := v } ∧ hostWrite .argFreq v s = { s with argFreq := v } ∧
      hostWrite .result v s = s ∧ hostWrite .status v s = s ∧ hostWrite .faultInfo v s = s) ∧
    (hostRead .cmd s = s.cmd ∧ hostRead .argLen s = s.argLen.setWidth 32 ∧
      hostRead .argPtr s = s.argPtr.setWidth 32 ∧ hostRead .argTmo s = s.argTmo ∧ hostRead .argFreq s = s.argFreq ∧
      hostRead .result s = s.result ∧ hostRead .faultInfo s = s.faultInfo) ∧
    (∀ r, hostReadUnit r s = { s with hostData := hostRead r s })

/-- R61, R75, R76: which accesses have a meaning, and what a step of the host does. -/
def Obligations.HostAccessStep : Prop :=
  ∀ (s : State) (width offset : Nat) (v : Word) (rest : List Input),
    ((¬(width = 32 ∧ offset % 4 = 0 ∧ offset ≤ 0x1C)) →
      (s.inputs = .hostWrite width offset v :: rest → step s = .refused .hostAccess) ∧
      (s.inputs = .hostRead width offset :: rest → step s = .refused .hostAccess)) ∧
    (∀ k : Fin 8, width = 32 → offset = 4 * k.val →
      let r := [HostReg.cmd, .argLen, .argPtr, .argTmo, .argFreq, .result, .status, .faultInfo][k]
      (s.inputs = .hostWrite width offset v :: rest →
        step s = .next (latchEdge (afterMove s) (hostWrite r v (afterMove s)))) ∧
      (s.inputs = .hostRead width offset :: rest →
        step s = .next { s with inputs := rest, hostData := hostRead r s }))

/-- R29, R34, R301: the STATUS word a host read returns, its fields at their places; the mode codes, in STATUS.MODE and
as SET_MODE's operand; and the fault codes. -/
def Obligations.StatusFields : Prop :=
  (∀ s : State,
    (hostRead .status s).getLsbD 0 = s.busy ∧ (hostRead .status s).getLsbD 1 = s.initDone ∧
    (hostRead .status s).extractLsb' 2 3 = s.mode.code ∧ (hostRead .status s).extractLsb' 5 3 = 0 ∧
    (hostRead .status s).extractLsb' 8 4 = s.faultCode.code ∧ (hostRead .status s).extractLsb' 12 20 = 0) ∧
  (∀ p ∈ [(Mode.sleep, 0), (.standby, 1), (.synth, 2), (.rx, 3), (.tx, 4)],
    p.1.code.toNat = p.2 ∧ modeOfCode (BitVec.ofNat 8 p.2) = some p.1) ∧
  (∀ a : Byte, 4 < a.toNat → modeOfCode a = none) ∧
  (∀ p ∈ [(FaultCode.none, 0), (.illegalCommand, 1), (.illegalArg, 2), (.notInitialized, 3), (.reinit, 4),
    (.reservedAddr, 5), (.slotRace, 6), (.busy, 7), (.hostAddr, 8)], p.1.code.toNat = p.2)

/-- R302, R301, R303, R105, R180, R63: the decode checks of a command at phase 0, in their order, each raising its fault
and nothing else. That GET_PAYLOAD_BYTE reports F_ILLEGAL_ARG in RX follows R302 against R185 (entry 16). -/
def Obligations.DecodeChecksInOrder : Prop :=
  ∀ s : State, s.phase = .start →
    (s.initDone = true → ∀ a n, exec (.init a n) s = faultTaken .reinit s) ∧
    (s.initDone = false → ∀ i, isCommand i = true → isInit i = false → exec i s = faultTaken .notInitialized s) ∧
    (s.initDone = true →
      (∀ a : Byte, 4 < a.toNat → exec (.setMode a) s = faultTaken .illegalArg s) ∧
      (∀ a : Byte, 31 < a.toNat → exec (.setPowerLevel a) s = faultTaken .illegalArg s) ∧
      (∀ a : Byte, 61 ≤ a.toNat → exec (.getPayloadByte a) s = faultTaken .illegalArg s)) ∧
    (s.initDone = false → ∀ n, exec (.init 255 n) s = faultTaken .reservedAddr s) ∧
    (s.initDone = true → s.mode = .rx →
      (∀ i ∈ [Instr.getSender, .getTarget, .getLength, .getRssi, .getAckFlags, .ackRequested, .sendAck],
        exec i s = faultTaken .slotRace s) ∧
      (∀ a : Byte, a.toNat < 61 → exec (.getPayloadByte a) s = faultTaken .slotRace s)) ∧
    (s.initDone = true → 65536 < s.argPtr.toNat + min s.argLen.toNat 61 →
      (∀ t rq, exec (.send t rq) s = faultTaken .hostAddr s) ∧
      (∀ t r, exec (.sendWithRetry t r) s = faultTaken .hostAddr s) ∧
      (s.mode ≠ .rx → exec .sendAck s = faultTaken .hostAddr s) ∧
      (∀ t rq ar, exec (.writeFrame t rq ar) s = faultTaken .hostAddr s)) ∧
    (s.initDone = true → 65536 < s.argPtr.toNat + 16 → exec (.setEncryptionKey true) s = faultTaken .hostAddr s)

/-! ## Configuration commands -/

/-- R270: INIT. Its SetMode(1) does nothing when MODE is Standby, as it is after reset. -/
def Obligations.InitResult : Prop :=
  ∀ (a n : Byte) (s : State), s.initDone = false → a ≠ 255 → s.mode = .standby →
    exec (.init a n) s = .next { s with
      ownAddr := a, netId := n, promisc := false, dio0Map := false
      hpOn := if s.params.hpVariant then false else s.hpOn
      slot := { frameLen := 0, dataLen := 0, sender := 0, target := 0, ackReq := false, ackRcvd := false, rssi := 0,
                payload := s.slot.payload }
      initDone := true, busy := false, phase := .start, ie := !s.inIsr
      chip := { s.chip with netId := n }
      busTrace := (if s.params.hpVariant then [.setHighPower false] else []) ++
        .setDio0Map false :: .setSyncNetwork n :: s.busTrace }

/-- R271 to R275: the configuration commands that write one register or do one opaque chip operation. GET_FREQUENCY
answers the chip's readback, for every readback. -/
def Obligations.ConfigurationResults : Prop :=
  ∀ s : State, s.initDone = true →
    (∀ n, exec (.setNetwork n) s = .next { s with
      netId := n, chip := { s.chip with netId := n }, ie := !s.inIsr
      busTrace := .setSyncNetwork n :: s.busTrace, busy := false, phase := .start }) ∧
    (∀ on, exec (.setPromiscuous on) s = .next { s with promisc := on, busy := false, phase := .start }) ∧
    (∀ p : Byte, p.toNat ≤ 31 → exec (.setPowerLevel p) s = .next { s with
      chip := { s.chip with paSetting := Config.paMap p s.params.hpVariant }, ie := !s.inIsr
      busTrace := .setPaLevel (Config.paMap p s.params.hpVariant) :: s.busTrace, busy := false, phase := .start }) ∧
    exec .setFrequency s = .next { s with
      chip := { s.chip with carrier := s.argFreq }, ie := !s.inIsr
      busTrace := .setFrequency s.argFreq :: s.busTrace, busy := false, phase := .start } ∧
    (∀ hz, frequencyAnswer s = hz → exec .getFrequency s = .next { s with
      result := hz, busy := false, phase := .start, ie := !s.inIsr
      answers := { s.answers with frequency := s.answers.frequency.tail }, draws := s.draws + 1
      busTrace := .readFrequency hz :: s.busTrace })


/-- R276: SET_ENCRYPTION_KEY reads 16 key bytes at ARG_PTR in rising order and turns encryption on, or turns it off. -/
def Obligations.SetEncryptionKeyResult : Prop :=
  ∀ s : State, s.initDone = true →
    (∀ k : List Byte, s.argPtr.toNat + 16 ≤ 65536 → k.length = 16 →
      (∀ i : Fin 16, k[i]? = some (memRead s.hostMem (s.argPtr.toNat + i.val))) →
      exec (.setEncryptionKey true) s = .next { s with
        chip := { s.chip with aesKey := some k }, ie := !s.inIsr, busTrace := .setAesKey k :: s.busTrace
        busy := false, phase := .start }) ∧
    exec (.setEncryptionKey false) s = .next { s with
      chip := { s.chip with aesKey := none }, ie := !s.inIsr, busTrace := .setAesOff :: s.busTrace
      busy := false, phase := .start }


/-! ## Mode controller -/

/-- R130, R131, R133, R134, R135: SET_MODE from a mode other than Sleep and other than the target, and SLEEP from
another mode. -/
def Obligations.SetModeTransition : Prop :=
  ∀ (m : Mode) (s : State), s.mode ≠ m → s.initDone = true →
    let moved : Result := .next { s with
      mode := m, chipMode := m, ie := !s.inIsr, busy := false, phase := .start
      hpOn := if s.params.hpVariant = true ∧ m = .tx then true
        else if s.params.hpVariant = true ∧ m = .rx then false else s.hpOn
      chip := { s.chip with
        opMode := m, packetSent := if s.chipMode = .tx ∧ m ≠ .tx then false else s.chip.packetSent }
      busTrace := (if s.params.hpVariant = true ∧ m = .tx then [.setHighPower true]
        else if s.params.hpVariant = true ∧ m = .rx then [.setHighPower false] else []) ++
          .setOpMode m :: s.busTrace }
    (∀ a, modeOfCode a = some m → s.mode ≠ .sleep → s.phase = .start → exec (.setMode a) s = moved) ∧
    (m = .sleep → exec .sleep s = moved)

/-- R136: SetMode to the current mode, in every routine that calls it, SET_MODE and SLEEP make no bus transaction and
change no state. -/
def Obligations.ModeIdempotence : Prop :=
  ∀ s : State,
    (∀ m r k, s.mode = m → setModeThen m r k s = k s) ∧
    (s.initDone = true → s.phase = .start →
      (∀ a m, modeOfCode a = some m → s.mode = m →
        exec (.setMode a) s = .next { s with busy := false, phase := .start }) ∧
      (s.mode = .sleep → exec .sleep s = .next { s with busy := false, phase := .start }))


/-- R130, R132: SET_MODE leaving Sleep. Its first unit commands the chip and waits at a window with MODE still Sleep; a
poll that finds the chip not ready before the bound changes nothing but the answer it took; a poll that finds it ready,
or the bound reached, sets MODE and finishes. -/
def Obligations.SetModeWakes : Prop :=
  ∀ (a : Byte) (m : Mode) (s : State), modeOfCode a = some m → m ≠ .sleep →
    (s.initDone = true → s.phase = .start → s.mode = .sleep →
      ∃ t, exec (.setMode a) s = .next t ∧ t.phase = .wake m .finish ∧ t.mode = .sleep ∧ t.chipMode = m ∧
        t.chip.opMode = m ∧ t.work = { s.work with tMr := s.clock } ∧ t.busy = s.busy ∧ t.slot = s.slot) ∧
    (s.phase = .wake m .finish → modeReadyAnswer s = false → ¬ReadyBoundReached s →
      exec (.setMode a) s = .next { s with
        ie := !s.inIsr
        answers := { s.answers with modeReady := s.answers.modeReady.tail }, draws := s.draws + 1
        busTrace := .readModeReady false :: s.busTrace }) ∧
    (s.phase = .wake m .finish → modeReadyAnswer s = true ∨ ReadyBoundReached s →
      exec (.setMode a) s = .next { s with
        mode := m, busy := false, phase := .start, ie := !s.inIsr
        answers := { s.answers with modeReady := s.answers.modeReady.tail }, draws := s.draws + 1
        busTrace := .readModeReady (modeReadyAnswer s) :: s.busTrace })

/-! ## Frame codec -/

/-- R151, R152, R150, R90: WRITE_FRAME pushes [n + 3, t, OWN_ADDR, ctl, payload...], n = min(L, 61), the payload from
host memory in rising order, in one transaction. -/
def Obligations.WriteFrameResult : Prop :=
  ∀ (t : Byte) (rq ar : Bool) (s : State) (payload : List Byte),
    s.initDone = true → s.argPtr.toNat + min s.argLen.toNat 61 ≤ 65536 →
    payload.length = min s.argLen.toNat 61 →
    (∀ i : Nat, i < payload.length → payload[i]? = some (memRead s.hostMem (s.argPtr.toNat + i))) →
    let ctl : Byte := if ar = true then 0x80 else if rq = true then 0x40 else 0x00
    let frame := BitVec.ofNat 8 (payload.length + 3) :: t :: s.ownAddr :: ctl :: payload
    exec (.writeFrame t rq ar) s = .next { s with
      work := { s.work with lAcc := BitVec.ofNat 8 (min s.argLen.toNat 61) }
      chip := { s.chip with txFifo := s.chip.txFifo ++ frame, txFrame := frame, txLoaded := true }
      ie := !s.inIsr, busTrace := .fifoWrite frame :: s.busTrace, busy := false, phase := .start }

/-- R153: for every payload length above 61, WRITE_FRAME and the transmit unit of SEND, SEND_ACK and SEND_WITH_RETRY
write exactly 61 payload bytes: a frame of 65 bytes whose length byte is 64. -/
def Obligations.OversizedPayloadIsTruncated : Prop :=
  ∀ s : State, 61 < s.argLen.toNat → s.argPtr.toNat + 61 ≤ 65536 →
    (∀ t rq ar, s.initDone = true → ∃ u, exec (.writeFrame t rq ar) s = .next u ∧
      u.chip.txFrame.length = 65 ∧ u.chip.txFrame.head? = some 64 ∧
      u.chip.txFifo = s.chip.txFifo ++ u.chip.txFrame) ∧
    (s.phase = .txReady → modeReadyAnswer s = true ∨ ReadyBoundReached s →
      (∀ i, ((∃ t rq, i = .send t rq) ∨ i = .sendAck ∨ ∃ t r, i = .sendWithRetry t r) →
        ∃ u, exec i s = .next u ∧ u.chip.txFrame.length = 65 ∧ u.chip.txFrame.head? = some 64 ∧
          u.chip.txFifo = s.chip.txFifo ++ u.chip.txFrame))

/-! ## Receive pipeline -/

/-- R171, R172: RECEIVE_BEGIN from a mode other than Sleep clears the seven slot fields, not the payload, restarts a
stale receiver, maps DIO0 to payload ready and leaves the radio in RX. -/
def Obligations.ReceiveBeginResult : Prop :=
  ∀ s : State, s.initDone = true → s.phase = .start → s.mode ≠ .sleep →
    ∃ t, exec .receiveBegin s = .next t ∧ t.mode = .rx ∧ t.dio0Map = false ∧ t.chip.payloadReady = false ∧
      t.slot = { frameLen := 0, dataLen := 0, sender := 0, target := 0, ackReq := false, ackRcvd := false, rssi := 0,
                 payload := s.slot.payload } ∧
      t.busy = false ∧ t.phase = .start ∧
      (s.mode = .rx → t.chipMode = s.chipMode ∧ t.hpOn = s.hpOn) ∧
      (s.mode ≠ .rx → t.chipMode = .rx ∧ t.hpOn = (if s.params.hpVariant then false else s.hpOn)) ∧
      t = { s with
        mode := t.mode, chipMode := t.chipMode, hpOn := t.hpOn, dio0Map := t.dio0Map, slot := t.slot, ie := !s.inIsr
        busy := t.busy, phase := t.phase, chip := t.chip, busTrace := t.busTrace }

/-- R173, R174: POLL_RECEIVED in its three branches. Filled: 1, Standby, the slot kept. Armed: 0, and nothing but IE and
RESULT. Not in RX and not asleep: 0, and the pipeline is armed with a cleared slot. -/
def Obligations.PollReceivedResult : Prop :=
  ∀ s : State, s.initDone = true → s.phase = .start → s.inIsr = false →
    (s.mode = .rx → s.slot.frameLen ≠ 0 →
      ∃ t, exec .pollReceived s = .next t ∧ t.result = 1 ∧ t.mode = .standby ∧ t.chipMode = .standby ∧
        t.slot = s.slot ∧ t.ie = true ∧ t.busy = false ∧ t.hpOn = s.hpOn ∧ t.dio0Map = s.dio0Map) ∧
    (s.mode = .rx → s.slot.frameLen = 0 →
      exec .pollReceived s = .next { s with result := 0, ie := true, busy := false, phase := .start }) ∧
    (s.mode ≠ .rx → s.mode ≠ .sleep →
      ∃ t, exec .pollReceived s = .next t ∧ t.result = 0 ∧ t.mode = .rx ∧ t.chipMode = .rx ∧ t.dio0Map = false ∧
        t.slot = { frameLen := 0, dataLen := 0, sender := 0, target := 0, ackReq := false, ackRcvd := false, rssi := 0,
                   payload := s.slot.payload } ∧
        t.ie = true ∧ t.busy = false ∧ t.chip.payloadReady = false)

/-- R181 to R187, R108: the slot accessors outside RX answer the slot and change RESULT alone. -/
def Obligations.SlotAccessorResults : Prop :=
  ∀ s : State, s.initDone = true → s.mode ≠ .rx →
    let answer (v : Word) : Result := .next { s with result := v, busy := false, phase := .start }
    exec .getSender s = answer (s.slot.sender.setWidth 32) ∧
    exec .getTarget s = answer (s.slot.target.setWidth 32) ∧
    exec .getLength s = answer (s.slot.dataLen.setWidth 32) ∧
    exec .getRssi s = answer (s.slot.rssi.signExtend 32) ∧
    (∀ (i : Byte) (h : i.toNat < 61), exec (.getPayloadByte i) s = answer ((s.slot.payload[i.toNat]'h).setWidth 32)) ∧
    exec .getAckFlags s = answer ((if s.slot.ackRcvd then 2 else 0) + (if s.slot.ackReq then 1 else 0)) ∧
    exec .ackRequested s = answer (if s.slot.ackReq = true ∧ s.slot.target ≠ 255 then 1 else 0)

/-- R190: a frame addressed to the broadcast address yields ACK_REQUESTED = 0 whatever its control byte. -/
def Obligations.BroadcastIsNeverAcked : Prop :=
  ∀ (s u : State) (rest : List Byte) (len sender ctl : Byte),
    s.mode = .rx → s.chip.payloadReady = true → s.chip.rxFifo = len :: 255 :: sender :: ctl :: rest →
    exec .capture s = .next u → ∀ m, m ≠ .rx → ∃ t, exec .ackRequested { u with mode := m, initDone := true } = .next t ∧
      t.result = 0

/-- R310: a capture entered outside RX, or with no payload ready, takes one status read and leaves all but the
interrupt bits as they are. -/
def Obligations.SpuriousCapture : Prop :=
  ∀ s : State, s.mode ≠ .rx ∨ s.chip.payloadReady = false →
    exec .capture s = .next { s with
      irqPending := false, inIsr := false, ie := true
      busTrace := .readPayloadReady s.chip.payloadReady :: s.busTrace }

/-- R175 to R179, R96: a capture that accepts its frame stores its header and payload, drops bytes past the 61st, ends
the payload with 0 where there is room and keeps the old bytes above, takes the RSSI sample and leaves the radio in RX.
`len` is the clamped length and `d` the payload length. The receive FIFO ends empty by R316, against R177's words about
the rest of an over-long frame (entry 35). -/
def Obligations.CaptureAccepts : Prop :=
  ∀ (s : State) (raw tgt snd ctl : Byte) (rest : List Byte) (len d : Nat),
    s.mode = .rx → s.chip.payloadReady = true → s.chip.rxFifo = raw :: tgt :: snd :: ctl :: rest →
    len = min raw.toNat (rxLenClamp s) → 3 ≤ len → d = len - 3 →
    (s.promisc = true ∨ tgt = s.ownAddr ∨ tgt = 255) →
    ∃ t, exec .capture s = .next t ∧
      t.slot.frameLen.toNat = len ∧ t.slot.dataLen.toNat = min d 61 ∧ t.slot.sender = snd ∧ t.slot.target = tgt ∧
      t.slot.ackRcvd = ctl.getLsbD 7 ∧ t.slot.ackReq = ctl.getLsbD 6 ∧
      t.busTrace.head? = some (.readRssi t.slot.rssi) ∧ (∀ v, s.answers.rssi.head? = some v → t.slot.rssi = v) ∧
      (∀ (i : Nat) (h : i < 61), (i < d → ∀ b, rest[i]? = some b → t.slot.payload[i] = b) ∧
        (i = d → t.slot.payload[i] = 0) ∧ (d < i → t.slot.payload[i] = s.slot.payload[i])) ∧
      t.mode = .rx ∧ t.chipMode = .rx ∧ t.chip.payloadReady = false ∧ t.chip.rxFifo = [] ∧ t.dio0Map = s.dio0Map ∧
      t.ie = true ∧ t.inIsr = false ∧ t.irqPending = false

/-- R175, R176, R179, R188: a capture that rejects its frame (another node's without promiscuous mode, or a length under
3 even with it) leaves every slot field 0 but the RSSI sample, the payload buffer as it was, and the pipeline armed. -/
def Obligations.CaptureRejects : Prop :=
  ∀ (s : State) (raw tgt : Byte) (rest : List Byte),
    s.mode = .rx → s.chip.payloadReady = true → s.chip.rxFifo = raw :: tgt :: rest →
    ((s.promisc = false ∧ tgt ≠ s.ownAddr ∧ tgt ≠ 255) ∨ raw.toNat < 3) →
    ∃ t, exec .capture s = .next t ∧
      t.slot = { frameLen := 0, dataLen := 0, sender := 0, target := 0, ackReq := false, ackRcvd := false
                 rssi := t.slot.rssi, payload := s.slot.payload } ∧
      t.busTrace.head? = some (.readRssi t.slot.rssi) ∧ (∀ v, s.answers.rssi.head? = some v → t.slot.rssi = v) ∧
      pipeline t = .armed ∧ t.chipMode = .rx ∧ t.dio0Map = false ∧ t.chip.payloadReady = false ∧ t.chip.rxFifo = [] ∧
      t.ie = true ∧ t.inIsr = false ∧ t.irqPending = false

/-- R309, R175: a capture run does not touch the command context: APP's position and registers, the configuration, the
host registers and the clock are as before, and it leaves interrupts enabled. -/
def Obligations.CaptureLeavesCommandContext : Prop :=
  ∀ s : State, ∃ t, exec .capture s = .next t ∧
    t.ie = true ∧ t.inIsr = false ∧ t.irqPending = false ∧
    t = { s with
      ie := t.ie, inIsr := t.inIsr, irqPending := t.irqPending, mode := t.mode, hpOn := t.hpOn, chipMode := t.chipMode
      dio0Map := t.dio0Map, slot := t.slot, chip := t.chip, answers := t.answers, draws := t.draws
      busTrace := t.busTrace } ∧
    t.mode = s.mode

/-- R311: no capture raises an edge of its own. -/
def Obligations.CaptureRaisesNoEdge : Prop :=
  ∀ s t : State, exec .capture s = .next t → ¬(dio0 s = false ∧ dio0 t = true)

/-- R316, R97: a frame of each class arrives when the chip is in RX with no frame waiting: its bytes are in the FIFO and
payload ready is set. The model's choices: that the instruction of a frame row is the arrival (A4); that an arrival which
R316 does not allow, outside RX or with a frame waiting, is lost and changes nothing (A19); and that while the chip is out
of step with CHIP_MODE, after a reset outside Standby or a bring-up in a run (A39), it is refused (A20): R343 says only
that the spec does not model the chip there. -/
def Obligations.FrameArrivalResults : Prop :=
  ∀ (f : FrameBody) (s : State) (i : Instr) (low : Byte),
    (i, low) ∈ [(Instr.frameData f, 0x00#8), (.frameDataReqack f, 0x40#8), (.frameAck f, 0x80#8),
      (.frameAckReqack f, 0xC0#8)] →
    (s.chip.opMode = s.chipMode → s.chipMode = .rx → s.chip.payloadReady = false →
      exec i s = .next { s with chip := { s.chip with
        payloadReady := true
        rxFifo := f.len :: f.target :: f.sender :: (low ||| f.ctlLow.setWidth 8) :: f.payload } }) ∧
    (s.chip.opMode = s.chipMode → s.chipMode ≠ .rx ∨ s.chip.payloadReady = true → exec i s = .next s) ∧
    (s.chip.opMode ≠ s.chipMode → exec i s = .refused .chipOutOfStep)

/-- R97, R96: an accepted frame of each class sets the two ACK flags of its class. -/
def Obligations.FrameClassSetsFlags : Prop :=
  ∀ (f : FrameBody) (s t u : State) (i : Instr) (rcvd req : Bool),
    (i, rcvd, req) ∈ [(Instr.frameData f, false, false), (.frameDataReqack f, false, true),
      (.frameAck f, true, false), (.frameAckReqack f, true, true)] →
    s.mode = .rx → s.chipMode = .rx → s.chip.opMode = .rx → s.chip.payloadReady = false →
    3 ≤ f.len.toNat → (s.promisc = true ∨ f.target = s.ownAddr ∨ f.target = 255) →
    exec i s = .next t → exec .capture t = .next u →
    u.slot.ackRcvd = rcvd ∧ u.slot.ackReq = req ∧ u.slot.sender = f.sender ∧ u.slot.target = f.target

/-- R189: a second accepted frame overwrites every slot field of the first; payload bytes above its terminator stay. -/
def Obligations.SecondFrameOverwrites : Prop :=
  ∀ (s t u : State) (f : FrameBody) (i : Instr),
    i ∈ [Instr.frameData f, .frameDataReqack f, .frameAck f, .frameAckReqack f] → f.complete = true →
    f.len.toNat ≤ min (rxLenClamp s) 63 →
    s.mode = .rx → s.chipMode = .rx → s.chip.opMode = .rx → s.chip.payloadReady = false →
    (s.promisc = true ∨ f.target = s.ownAddr ∨ f.target = 255) →
    exec i s = .next t → exec .capture t = .next u →
    u.slot.frameLen = f.len ∧ u.slot.dataLen.toNat = f.payload.length ∧ u.slot.sender = f.sender ∧
    u.slot.target = f.target ∧ (∀ v, s.answers.rssi.head? = some v → u.slot.rssi = v) ∧
    (u.slot.payload.toList.take (f.payload.length + 1) = f.payload ++ [0]) ∧
    (u.slot.payload.toList.drop (f.payload.length + 1) = s.slot.payload.toList.drop (f.payload.length + 1))


/-! ## Channel access -/

/-- R210, R211: CAN_SEND. With no frame pending in RX it takes one sample; below the threshold it claims the channel in
Standby; otherwise, and without a sample when the first tests fail, it answers 0 and changes no mode. -/
def Obligations.CanSendResult : Prop :=
  ∀ s : State, s.initDone = true →
    (s.mode = .rx → s.slot.frameLen = 0 → (rssiAnswer s).toInt < s.params.csmaThreshold.toInt →
      ∃ t, exec .canSend s = .next t ∧ t.result = 1 ∧ t.mode = .standby ∧ t.chipMode = .standby ∧ t.hpOn = s.hpOn ∧
        t.slot = s.slot ∧ t.busy = false ∧
        t.busTrace = .setOpMode .standby :: .readRssi (rssiAnswer s) :: s.busTrace) ∧
    (s.mode = .rx → s.slot.frameLen = 0 → s.params.csmaThreshold.toInt ≤ (rssiAnswer s).toInt →
      exec .canSend s = .next { s with
        result := 0, busy := false, phase := .start, ie := !s.inIsr
        answers := { s.answers with rssi := s.answers.rssi.tail }, draws := s.draws + 1
        busTrace := .readRssi (rssiAnswer s) :: s.busTrace }) ∧
    (s.mode ≠ .rx ∨ s.slot.frameLen ≠ 0 →
      exec .canSend s = .next { s with result := 0, busy := false, phase := .start })

/-- R212, R213: the units of AWAIT_CLEAR_CHANNEL: T_CSMA <- Now(); the CanSend test, then the deadline, then the second
window; the ReceiveDone, back to the first window. -/
def Obligations.AwaitClearChannelUnits : Prop :=
  ∀ s : State,
    (s.initDone = true → s.phase = .start →
      exec .awaitClearChannel s = .next { s with work := { s.work with tCsma := s.clock }, phase := .csmaTest }) ∧
    (s.phase = .csmaTest → canSendResult s = true →
      ∃ t, exec .awaitClearChannel s = .next t ∧ t.result = 1 ∧ t.mode = .standby ∧ t.busy = false ∧
        t.phase = .start ∧ t.slot = s.slot) ∧
    (s.phase = .csmaTest → canSendResult s = false → s.argTmo ≤ s.clock - s.work.tCsma →
      ∃ t, exec .awaitClearChannel s = .next t ∧ t.result = 0 ∧ t.mode = s.mode ∧ t.busy = false ∧
        t.phase = .start ∧ t.slot = s.slot) ∧
    (s.phase = .csmaTest → canSendResult s = false → ¬s.argTmo ≤ s.clock - s.work.tCsma →
      ∃ t, exec .awaitClearChannel s = .next t ∧ t.result = s.result ∧ t.mode = s.mode ∧ t.busy = s.busy ∧
        t.phase = .csmaPoll ∧ t.slot = s.slot) ∧
    (s.phase = .csmaPoll → s.mode = .rx → s.slot.frameLen = 0 →
      exec .awaitClearChannel s = .next { s with ie := true, phase := .csmaTest }) ∧
    (s.phase = .csmaPoll → s.mode = .rx → s.slot.frameLen ≠ 0 →
      ∃ t, exec .awaitClearChannel s = .next t ∧ pipeline t = .consumed ∧ t.slot = s.slot ∧ t.phase = .csmaTest) ∧
    (s.phase = .csmaPoll → s.mode ≠ .rx → s.mode ≠ .sleep →
      ∃ t, exec .awaitClearChannel s = .next t ∧ pipeline t = .armed ∧ t.slot.sender = 0 ∧ t.slot.dataLen = 0 ∧
        t.dio0Map = false ∧ t.phase = .csmaTest)

/-! ## Delivery -/

/-- R231, R232, R235, R214: the channel-clear wait of the three transmit commands, and TransmitFrame's start. The wait
ends, whether or not the channel was claimed, at the window before TransmitFrame, and leaves ATTEMPT alone. -/
def Obligations.ChannelWaitIsAdvisory : Prop :=
  ∀ (s : State) (i : Instr), ((∃ a rq, i = .send a rq) ∨ i = .sendAck ∨ ∃ a r, i = .sendWithRetry a r) →
    (s.phase = .csmaEnter →
      exec i s = .next { s with work := { s.work with tCsma := s.clock }, phase := .csmaTest }) ∧
    (s.phase = .csmaTest → canSendResult s = true →
      ∃ t, exec i s = .next t ∧ t.phase = .txEnter ∧ t.mode = .standby ∧ t.slot = s.slot ∧ t.busy = s.busy ∧
        t.work = s.work) ∧
    (s.phase = .csmaTest → canSendResult s = false →
      ∃ t, exec i s = .next t ∧ t.mode = s.mode ∧ t.slot = s.slot ∧ t.busy = s.busy ∧ t.work = s.work ∧
        t.phase = if s.params.csmaTimeout ≤ s.clock - s.work.tCsma then .txEnter else .csmaPoll) ∧
    (s.phase = .csmaPoll → s.mode = .rx → s.slot.frameLen = 0 →
      exec i s = .next { s with ie := true, phase := .csmaTest }) ∧
    (s.phase = .csmaPoll → s.mode = .rx → s.slot.frameLen ≠ 0 →
      ∃ t, exec i s = .next t ∧ pipeline t = .consumed ∧ t.slot = s.slot ∧ t.phase = .csmaTest ∧ t.busy = s.busy ∧
        t.work = s.work) ∧
    (s.phase = .csmaPoll → s.mode ≠ .rx → s.mode ≠ .sleep →
      ∃ t, exec i s = .next t ∧ pipeline t = .armed ∧ t.slot = { State.reset.slot with payload := s.slot.payload } ∧
        t.phase = .csmaTest ∧ t.busy = s.busy ∧ t.work = s.work) ∧
    (s.phase = .txEnter → s.mode ≠ .sleep →
      ∃ t, exec i s = .next t ∧ t.phase = .txReady ∧ t.mode = .standby ∧ t.slot = s.slot ∧ t.busy = s.busy ∧
        t.work = { s.work with tMr := s.clock })

/-- R130, R171, R173, R230: what wakes the radio. A re-arm from Sleep (by RECEIVE_BEGIN, POLL_RECEIVED, ACK_RECEIVED, the
channel-clear wait and the ACK wait) clears the slot, commands RX and waits with MODE still Sleep; TransmitFrame from
Sleep commands Standby and waits. The poll that finds the chip ready, or the bound reached, sets MODE and the command goes
on where it was; a poll before both changes nothing but IE and the answer it took. -/
def Obligations.SleepingRadioWakes : Prop :=
  ∀ (s : State) (i : Instr) (m : Mode) (r : Resume) (u : State → State),
    ((i = .receiveBegin ∧ m = .rx ∧ r = .finish ∧
        u = fun t => { t with busy := false, phase := .start }) ∨
      ((i = .pollReceived ∨ ∃ f, i = .ackReceived f) ∧ m = .rx ∧ r = .finish ∧
        u = fun t => { t with result := 0, busy := false, phase := .start }) ∨
      ((i = .awaitClearChannel ∨ (∃ a rq, i = .send a rq) ∨ i = .sendAck ∨ ∃ a b, i = .sendWithRetry a b) ∧
        m = .rx ∧ r = .csma ∧ u = fun t => { t with phase := .csmaTest }) ∨
      ((∃ a b, i = .sendWithRetry a b) ∧ m = .rx ∧ r = .ackPoll ∧ u = fun t => { t with phase := .ackWait }) ∨
      (((∃ a rq, i = .send a rq) ∨ i = .sendAck ∨ ∃ a b, i = .sendWithRetry a b) ∧ m = .standby ∧ r = .txStart ∧
        u = fun t => { t with work := { t.work with tMr := t.clock }, phase := .txReady })) →
    (s.mode = .sleep → s.initDone = true →
      (r = .finish ∧ s.phase = .start) ∨ (r = .csma ∧ s.phase = .csmaPoll) ∨
        (r = .ackPoll ∧ s.phase = .ackWait ∧ ¬s.argTmo ≤ s.clock - s.work.tAck) ∨
        (r = .txStart ∧ s.phase = .txEnter) →
      ∃ t, exec i s = .next t ∧ t.phase = .wake m r ∧ t.mode = .sleep ∧ t.chipMode = m ∧ t.busy = s.busy ∧
        t.work = { s.work with tMr := s.clock } ∧
        t.slot = (if m = .rx then { State.reset.slot with payload := s.slot.payload } else s.slot)) ∧
    (s.phase = .wake m r → modeReadyAnswer s = true ∨ ReadyBoundReached s →
      exec i s = .next (u { s with
        mode := m, ie := !s.inIsr
        answers := { s.answers with modeReady := s.answers.modeReady.tail }, draws := s.draws + 1
        busTrace := .readModeReady (modeReadyAnswer s) :: s.busTrace })) ∧
    (s.phase = .wake m r → modeReadyAnswer s = false → ¬ReadyBoundReached s →
      exec i s = .next { s with
        ie := !s.inIsr
        answers := { s.answers with modeReady := s.answers.modeReady.tail }, draws := s.draws + 1
        busTrace := .readModeReady false :: s.busTrace })

/-- R231, R232, R235: the first unit of the three transmit commands restarts the receiver and stops at the window before
the channel-clear wait; SEND_ACK saves sender and RSSI, SEND_WITH_RETRY clears ATTEMPT. The unit between two attempts of
SEND_WITH_RETRY does the same and keeps ATTEMPT. -/
def Obligations.TransmitCommandsStart : Prop :=
  ∀ s : State,
    let started (w : Work) : Result := .next { s with
      work := w, phase := .csmaEnter, ie := !s.inIsr
      chip := { s.chip with payloadReady := false, rxFifo := [] }, busTrace := .rxRestart :: s.busTrace }
    (s.initDone = true → s.phase = .start → s.argPtr.toNat + min s.argLen.toNat 61 ≤ 65536 →
      (∀ t rq, exec (.send t rq) s = started s.work) ∧
      (s.mode ≠ .rx →
        exec .sendAck s = started { s.work with savedSender := s.slot.sender, savedRssi := s.slot.rssi }) ∧
      (∀ t r, exec (.sendWithRetry t r) s = started { s.work with attempt := 0 })) ∧
    (s.phase = .retry → ∀ t r, exec (.sendWithRetry t r) s = started s.work)

/-- R230, R132: TransmitFrame's mode-ready wait and its middle unit. A poll that finds the chip not ready before the bound
changes nothing but IE and the answer it took. When the wait ends in Standby, DIO0 is mapped to packet sent, the command's
frame is written, the radio enters TX and the packet-sent wait starts. -/
def Obligations.TransmitUnit : Prop :=
  ∀ (s : State) (i : Instr) (tgt ctl : Byte),
    ((∃ rq, i = .send tgt rq ∧ ctl = if rq = true then 0x40 else 0x00) ∨
      (i = .sendAck ∧ tgt = s.work.savedSender ∧ ctl = 0x80) ∨ (∃ r, i = .sendWithRetry tgt r ∧ ctl = 0x40)) →
    s.phase = .txReady →
    (modeReadyAnswer s = false → ¬ReadyBoundReached s →
      exec i s = .next { s with
        ie := !s.inIsr
        answers := { s.answers with modeReady := s.answers.modeReady.tail }, draws := s.draws + 1
        busTrace := .readModeReady false :: s.busTrace }) ∧
    (∀ payload : List Byte, s.mode = .standby → modeReadyAnswer s = true ∨ ReadyBoundReached s →
      s.argPtr.toNat + min s.argLen.toNat 61 ≤ 65536 → payload.length = min s.argLen.toNat 61 →
      (∀ k : Nat, k < payload.length → payload[k]? = some (memRead s.hostMem (s.argPtr.toNat + k))) →
      let frame := BitVec.ofNat 8 (payload.length + 3) :: tgt :: s.ownAddr :: ctl :: payload
      ∃ t, exec i s = .next t ∧ t.mode = .tx ∧ t.chipMode = .tx ∧ t.phase = .txSent ∧ t.dio0Map = true ∧
        t.hpOn = (if s.params.hpVariant then true else s.hpOn) ∧ t.chip.txFrame = frame ∧ t.chip.txLoaded = true ∧
        t.chip.txFifo = s.chip.txFifo ++ frame ∧ t.slot = s.slot ∧ t.busy = s.busy ∧
        t.work = { s.work with tTx := s.clock, lAcc := BitVec.ofNat 8 payload.length })

/-- R230, R231, R232, R235: the unit that ends the packet-sent wait in TX returns to Standby. SEND finishes; SEND_ACK
finishes with its saved sender and RSSI back in the slot; SEND_WITH_RETRY counts the attempt and starts the ACK wait.
A poll before the bound with no packet sent stays in the wait. -/
def Obligations.TransmitEnds : Prop :=
  ∀ s : State, s.phase = .txSent → s.mode = .tx →
    (s.chip.packetSent = true ∨ s.params.txTimeout ≤ s.clock - s.work.tTx →
      (∀ a rq, ∃ t, exec (.send a rq) s = .next t ∧ t.mode = .standby ∧ t.chipMode = .standby ∧ t.busy = false ∧
        t.phase = .start ∧ t.slot = s.slot ∧ t.result = s.result ∧ t.hpOn = s.hpOn ∧ t.dio0Map = s.dio0Map) ∧
      (∃ t, exec .sendAck s = .next t ∧ t.mode = .standby ∧ t.busy = false ∧ t.phase = .start ∧
        t.slot = { s.slot with sender := s.work.savedSender, rssi := s.work.savedRssi } ∧ t.result = s.result) ∧
      (∀ a r, ∃ t, exec (.sendWithRetry a r) s = .next t ∧ t.mode = .standby ∧ t.busy = s.busy ∧ t.phase = .ackWait ∧
        t.work = { s.work with attempt := s.work.attempt + 1, tAck := s.clock } ∧ t.slot = s.slot)) ∧
    (s.chip.packetSent = false → ¬s.params.txTimeout ≤ s.clock - s.work.tTx →
      ∀ i, ((∃ a rq, i = .send a rq) ∨ i = .sendAck ∨ ∃ a r, i = .sendWithRetry a r) →
        exec i s = .next { s with ie := !s.inIsr, busTrace := .readPacketSent false :: s.busTrace })

/-- R235: the ACK wait of SEND_WITH_RETRY. At the deadline: RESULT 0 after B + 1 attempts, else the window before the
next attempt. Before it, a held frame that is a matching ACK finishes with RESULT 1, and one that is not is consumed and
the wait goes on; in Armed it goes on; and in another mode but Sleep, as at the first poll after a transmission, the
pipeline is armed with a cleared slot and the wait goes on. -/
def Obligations.AckWaitUnits : Prop :=
  ∀ (s : State) (a r : Byte), s.phase = .ackWait →
    (s.argTmo ≤ s.clock - s.work.tAck → s.work.attempt.toNat = r.toNat + 1 →
      exec (.sendWithRetry a r) s = .next { s with result := 0, busy := false, phase := .start }) ∧
    (s.argTmo ≤ s.clock - s.work.tAck → s.work.attempt.toNat ≠ r.toNat + 1 →
      exec (.sendWithRetry a r) s = .next { s with phase := .retry }) ∧
    (¬s.argTmo ≤ s.clock - s.work.tAck → s.mode = .rx → s.slot.frameLen ≠ 0 →
      ((s.slot.sender = a ∨ a = 255) ∧ s.slot.ackRcvd = true →
        ∃ t, exec (.sendWithRetry a r) s = .next t ∧ t.result = 1 ∧ t.busy = false ∧ pipeline t = .consumed ∧
          t.slot = s.slot) ∧
      (¬((s.slot.sender = a ∨ a = 255) ∧ s.slot.ackRcvd = true) →
        ∃ t, exec (.sendWithRetry a r) s = .next t ∧ t.result = s.result ∧ t.busy = s.busy ∧ t.phase = .ackWait ∧
          pipeline t = .consumed ∧ t.slot = s.slot)) ∧
    (¬s.argTmo ≤ s.clock - s.work.tAck → s.mode = .rx → s.slot.frameLen = 0 →
      exec (.sendWithRetry a r) s = .next { s with ie := true }) ∧
    (¬s.argTmo ≤ s.clock - s.work.tAck → s.mode ≠ .rx → s.mode ≠ .sleep →
      ∃ t, exec (.sendWithRetry a r) s = .next t ∧ t.result = s.result ∧ t.busy = s.busy ∧ t.phase = .ackWait ∧
        t.work = s.work ∧ pipeline t = .armed ∧ t.chipMode = .rx ∧ t.dio0Map = false ∧ t.chip.payloadReady = false ∧
        t.slot = { State.reset.slot with payload := s.slot.payload })

/-- R233, R234: ACK_RECEIVED answers 1 exactly for a held frame that is an ACK from the address, or from anyone for 255;
it consumes any held frame, answers 0 in Armed, and from another mode but Sleep answers 0 and arms with a cleared slot
(R171). -/
def Obligations.AckReceivedResult : Prop :=
  ∀ (s : State) (f : Byte), s.initDone = true → s.phase = .start →
    (s.mode = .rx → s.slot.frameLen ≠ 0 →
      ∃ t, exec (.ackReceived f) s = .next t ∧ pipeline t = .consumed ∧ t.slot = s.slot ∧ t.mode = .standby ∧
        t.busy = false ∧ t.result = (if (s.slot.sender = f ∨ f = 255) ∧ s.slot.ackRcvd = true then 1 else 0)) ∧
    (s.mode = .rx → s.slot.frameLen = 0 →
      exec (.ackReceived f) s = .next { s with result := 0, ie := true, busy := false, phase := .start }) ∧
    (s.mode ≠ .rx → s.mode ≠ .sleep →
      ∃ t, exec (.ackReceived f) s = .next t ∧ t.result = 0 ∧ pipeline t = .armed ∧ t.busy = false ∧
        t.slot = { State.reset.slot with payload := s.slot.payload })

/-- R232: SEND_ACK's saved sender and RSSI survive every unit up to its end, captures and outside moves among them, so
that what it restores is what it saved. -/
def Obligations.SendAckKeepsSavedFields : Prop :=
  ∀ s t : State, NoReset s → decodeCommand s.curCmd = .ok .sendAck → s.phase ≠ .start → s.busy = true →
    step s = .next t → t.work.savedSender = s.work.savedSender ∧ t.work.savedRssi = s.work.savedRssi

/-- R237: a SEND_ACK frame of node b, addressed to node a, matches at a: if a is armed when the frame arrives and its
capture runs, ACK_RECEIVED from b's address answers 1. The two nodes are two states and the frame is handed from one to
the other: the model's choice, entry 37. -/
def Obligations.AckFrameMatchesAtSender : Prop :=
  ∀ a b b' a1 a2 a3 : State,
    b.phase = .txReady → b.mode = .standby → modeReadyAnswer b = true → exec .sendAck b = .next b' →
    a.ownAddr = b.work.savedSender → a.initDone = true → a.phase = .start →
    pipeline a = .armed → a.chipMode = .rx → a.chip.opMode = .rx → a.chip.payloadReady = false →
    frameUnit a.chip.netId b'.chip.txFrame a = .next a1 → exec .capture a1 = .next a2 →
    exec (.ackReceived b.ownAddr) a2 = .next a3 → a3.result = 1

/-- R90, R151, R178: what WriteFrame sends is what the capture stores: a frame written at node b and captured whole at an
armed node a that accepts it gives a the sender, the length and the payload bytes of b's host memory. The two nodes are
two states and the frame is handed from one to the other: the model's choice, entry 37. -/
def Obligations.WrittenFrameIsCaptured : Prop :=
  ∀ (a b b' a1 a2 : State) (t : Byte) (rq ar : Bool),
    b.initDone = true → b.argPtr.toNat + min b.argLen.toNat 61 ≤ 65536 → exec (.writeFrame t rq ar) b = .next b' →
    64 ≤ rxLenClamp a → (t = a.ownAddr ∨ t = 255 ∨ a.promisc = true) →
    a.mode = .rx → a.chipMode = .rx → a.chip.opMode = .rx → a.chip.payloadReady = false →
    frameUnit a.chip.netId b'.chip.txFrame a = .next a1 → exec .capture a1 = .next a2 →
    a2.slot.sender = b.ownAddr ∧ a2.slot.target = t ∧ a2.slot.dataLen.toNat = min b.argLen.toNat 61 ∧
    a2.slot.ackRcvd = ar ∧ a2.slot.ackReq = (rq && !ar) ∧
    (∀ (i : Nat) (h : i < 61), i < min b.argLen.toNat 61 →
      a2.slot.payload[i] = memRead b.hostMem (b.argPtr.toNat + i))

/-! ## Environment, memory, reset -/

/-- The frame of every unit (R63, R314, R21, R8, R303): no instruction writes host memory, the clock, the parameters,
the CMD and argument registers or the air; OWN_ADDR, INIT_DONE, NET_ID, PROMISC and the chip's settings change only by the
rows that set them, the interrupt bits of R308 only by CAPTURE, RESULT only by the rows with a result, the transmit FIFO
only by the rows that write a frame, the payload buffer only by CAPTURE; and a unit that raises a fault does nothing
else. -/
def Obligations.ExecFrame : Prop :=
  ∀ (i : Instr) (s : State), Ensures (exec i s) fun t =>
    (t.hostMem = s.hostMem ∧ t.clock = s.clock ∧ t.params = s.params ∧ t.inputs = s.inputs ∧ t.cmd = s.cmd ∧
      t.curCmd = s.curCmd ∧ t.argLen = s.argLen ∧ t.argPtr = s.argPtr ∧ t.argTmo = s.argTmo ∧ t.argFreq = s.argFreq ∧
      t.hostData = s.hostData ∧ t.chip.air = s.chip.air) ∧
    (isInit i = false → t.ownAddr = s.ownAddr ∧ t.initDone = s.initDone) ∧
    ((∀ n, i ≠ .setNetwork n) → isInit i = false → t.netId = s.netId ∧ t.chip.netId = s.chip.netId) ∧
    ((∀ on, i ≠ .setPromiscuous on) → isInit i = false → t.promisc = s.promisc) ∧
    ((∀ p, i ≠ .setPowerLevel p) → t.chip.paSetting = s.chip.paSetting) ∧
    (i ≠ .setFrequency → t.chip.carrier = s.chip.carrier) ∧
    ((∀ k, i ≠ .setEncryptionKey k) → t.chip.aesKey = s.chip.aesKey) ∧
    (i ≠ .capture → t.irqPending = s.irqPending ∧ t.inIsr = s.inIsr ∧ t.slot.payload = s.slot.payload) ∧
    (writesResult i = false → t.result = s.result) ∧
    (writesFrame i = false → t.chip.txFifo = s.chip.txFifo ∧ t.chip.txFrame = s.chip.txFrame ∧
      t.chip.txLoaded = s.chip.txLoaded ∧ t.work.lAcc = s.work.lAcc) ∧
    ((t.faultCode = s.faultCode ∧ t.faultInfo = s.faultInfo) ∨
      t = { s with faultCode := t.faultCode, faultInfo := s.curCmd, busy := true })

/-- R63, R60: a host store reads back, leaves every other byte as it reads, and keeps the canonical form. -/
def Obligations.HostStoreReadsBack : Prop :=
  ∀ (s : State) (a : BitVec 16) (b : Byte) (rest : List Input),
    s.inputs = .hostMemWrite a b :: rest → s.busy = false → Memory.wf s.hostMem = true →
    ∃ t, step s = .next t ∧ memRead t.hostMem a.toNat = b ∧
      (∀ x, x ≠ a.toNat → memRead t.hostMem x = memRead s.hostMem x) ∧ Memory.wf t.hostMem = true ∧
      t = { s with hostMem := t.hostMem, inputs := rest }

/-- R340: the state after reset, every register the spec gives a reset value. -/
def Obligations.ResetValues : Prop :=
  let s := State.reset
  s.cmd = 0 ∧ s.argLen = 0 ∧ s.argPtr = 0 ∧ s.argTmo = 0 ∧ s.argFreq = 0 ∧ s.result = 0 ∧ s.faultInfo = 0 ∧
  statusWord s = 0x00000004 ∧ s.ownAddr = 0 ∧ s.netId = 0 ∧ s.promisc = false ∧ s.mode = .standby ∧
  s.chipMode = .standby ∧ s.hpOn = false ∧ s.dio0Map = false ∧ s.slot.frameLen = 0 ∧ s.slot.dataLen = 0 ∧
  s.slot.sender = 0 ∧ s.slot.target = 0 ∧ s.slot.ackReq = false ∧ s.slot.ackRcvd = false ∧ s.slot.rssi = 0 ∧
  s.ie = true ∧ s.inIsr = false ∧ s.irqPending = false ∧ s.busy = false

/-- R340, R304: the reset input at any time, a latched fault among the cases: every engine register takes its reset
value, and the strap, the chip, the clock and host memory keep theirs. -/
def Obligations.ResetEventResult : Prop :=
  ∀ (s : State) (rest : List Input), s.inputs = .reset :: rest →
    ∃ t, step s = .next t ∧ statusWord t = 0x00000004 ∧ t.busy = false ∧ t.phase = .start ∧ t.faultCode = .none ∧
      t.cmd = 0 ∧ t.argLen = 0 ∧ t.argPtr = 0 ∧ t.argTmo = 0 ∧ t.argFreq = 0 ∧ t.result = 0 ∧ t.faultInfo = 0 ∧
      t.ownAddr = 0 ∧ t.netId = 0 ∧ t.promisc = false ∧ t.mode = .standby ∧ t.chipMode = .standby ∧ t.hpOn = false ∧
      t.dio0Map = false ∧ t.slot = { State.reset.slot with payload := t.slot.payload } ∧ t.ie = true ∧
      t.inIsr = false ∧ t.irqPending = false ∧
      t.params = s.params ∧ t.chip = s.chip ∧ t.clock = s.clock ∧ t.hostMem = s.hostMem

/-- R340, R70, R36, R38, R30: the state after reset meets every invariant below. Two of them rest on the model's choices
for what R340 does not reset: AirLegal on the empty air and transmitter of entry 11, the memory's form on the empty host
memory of entry 12. -/
def Obligations.ResetMeetsInvariants : Prop :=
  WindowOpen State.reset ∧ SequencerLegal State.reset ∧ ModesAgree State.reset ∧ RetryBounded State.reset ∧
  AirLegal State.reset ∧ SlotLegal State.reset ∧ OwnAddrLegal State.reset ∧ Memory.wf State.reset.hostMem = true

/-! ## Invariants of every step -/

/-- R70: IE = 1 and IN_ISR = 0 at every window. -/
def Obligations.WindowStaysOpen : Prop := ∀ s : State, WindowOpen s → Ensures (step s) WindowOpen

/-- R49: the sequencer stays at a position of the running command's pseudocode. -/
def Obligations.SequencerStaysLegal : Prop := ∀ s : State, SequencerLegal s → Ensures (step s) SequencerLegal

/-- R63: from a legal sequencer state no step ends in a fault of the model: no read leaves host memory. -/
def Obligations.StepNeverFaults : Prop := ∀ s : State, SequencerLegal s → FaultFree (step s)

/-- R36, R131: MODE, CHIP_MODE and HP_ON agree after every step. -/
def Obligations.ModesStayAgreed : Prop :=
  ∀ s : State, SequencerLegal s → ModesAgree s → Ensures (step s) ModesAgree

/-- R235, R236: SEND_WITH_RETRY never makes more than B + 1 attempts. ATTEMPT is bounded at every step; and past the
command's first unit, which sets it to 0 (TransmitCommandsStart), no step but a reset changes it, the units between
attempts and the channel wait among them, except that the end of TransmitFrame adds 1. -/
def Obligations.RetriesStayBounded : Prop :=
  ∀ s : State, (RetryBounded s → Ensures (step s) RetryBounded) ∧
    (∀ a r, decodeCommand s.curCmd = .ok (.sendWithRetry a r) → s.busy = true → s.phase ≠ .start → NoReset s →
      Ensures (step s) fun t =>
        let ended := (s.phase = .txSent ∨ ∃ m, s.phase = .wake m .txEnd) ∧ t.phase = .ackWait
        (ended → t.work.attempt = s.work.attempt + 1) ∧ (¬ended → t.work.attempt = s.work.attempt))

/-- R91, R95: every frame put on the air has a length byte of 3 to 64 that counts its bytes, at most 61 payload bytes and
one of three control bytes. -/
def Obligations.AirStaysLegal : Prop := ∀ s : State, AirLegal s → Ensures (step s) AirLegal

/-- R38, R39: the two length registers of the slot stay legal and agree. -/
def Obligations.SlotStaysLegal : Prop := ∀ s : State, SlotLegal s → Ensures (step s) SlotLegal

/-- R30: OWN_ADDR is a node address after every step, and once INIT is done nothing but reset changes it. -/
def Obligations.OwnAddressIsImmutable : Prop :=
  ∀ s : State, (OwnAddrLegal s → Ensures (step s) OwnAddrLegal) ∧
    (s.initDone = true → NoReset s → Ensures (step s) fun t => t.ownAddr = s.ownAddr ∧ t.initDone = true)

/-- R304: while a fault is latched, nothing but reset changes an engine register, IRQ_PENDING apart. -/
def Obligations.LatchedFaultHalts : Prop :=
  ∀ s : State, s.faultCode ≠ .none → NoReset s → Ensures (step s) fun t =>
    t = { s with
      irqPending := t.irqPending, chip := t.chip, clock := t.clock, hostMem := t.hostMem, inputs := t.inputs
      hostData := t.hostData }

/-- R73: while a command runs, nothing but reset changes its word or the argument registers. -/
def Obligations.RunningCommandIsLatched : Prop :=
  ∀ s : State, s.busy = true → NoReset s → Ensures (step s) fun t =>
    t.curCmd = s.curCmd ∧ t.cmd = s.cmd ∧ t.argLen = s.argLen ∧ t.argPtr = s.argPtr ∧ t.argTmo = s.argTmo ∧
    t.argFreq = s.argFreq
end

