-- ==== Sys2Proof/Laws/Memory.lean ====
section
/-! SUPPORT. Host data memory: a read after a store, and the canonical form every store keeps (R63). -/

namespace Sys2Proof.Machine

@[simp] theorem memRead_nil (a : Nat) : memRead [] a = memUnlisted := rfl

/-- The cells from lo on hold nothing below lo. -/
theorem memRead_below {m : List Host.Cell} {lo a : Nat} (h : Memory.wfFrom lo m = true) (ha : a < lo) :
    memRead m a = memUnlisted := by
  induction m generalizing lo with
  | nil => rfl
  | cons c m ih =>
    obtain ⟨a', b⟩ := c
    simp only [Memory.wfFrom, Bool.and_eq_true, decide_eq_true_eq] at h
    have hne : a ≠ a' := by omega
    simp only [memRead, hne, if_false]
    exact ih h.2 (by omega)

/-- Cells canonical from a place on are canonical from any lower place on. -/
theorem wfFrom_mono {m : List Host.Cell} {lo lo' : Nat} (h : Memory.wfFrom lo m = true) (hl : lo' ≤ lo) :
    Memory.wfFrom lo' m = true := by
  cases m with
  | nil => rfl
  | cons c m =>
    obtain ⟨a, b⟩ := c
    simp only [Memory.wfFrom, Bool.and_eq_true, decide_eq_true_eq] at h ⊢
    exact ⟨⟨⟨by omega, h.1.1.2⟩, h.1.2⟩, h.2⟩

/-- A cell in front of canonical cells is canonical, or is dropped. -/
theorem memCons_wf {m : List Host.Cell} {lo a : Nat} (b : Byte) (h : Memory.wfFrom (a + 1) m = true)
    (hlo : lo ≤ a) (ha : a < Config.hostMemSize) : Memory.wfFrom lo (memCons a b m) = true := by
  unfold memCons
  split
  · exact wfFrom_mono h (by omega)
  · next hb => simp [Memory.wfFrom, hlo, ha, h, hb]

/-- Reading through memCons. -/
theorem memRead_memCons {m : List Host.Cell} {a : Nat} (b : Byte) (x : Nat)
    (h : Memory.wfFrom (a + 1) m = true) : memRead (memCons a b m) x = if x = a then b else memRead m x := by
  unfold memCons
  split
  · next hb =>
    split
    · next hx => subst hx; rw [hb]; exact memRead_below h (by omega)
    · rfl
  · rfl

/-- A store inside the address space keeps the canonical form from any place at or below it. -/
theorem memWrite_wfFrom {m : List Host.Cell} {lo a : Nat} (b : Byte) (h : Memory.wfFrom lo m = true)
    (hlo : lo ≤ a) (ha : a < Config.hostMemSize) : Memory.wfFrom lo (memWrite m a b) = true := by
  induction m generalizing lo with
  | nil => exact memCons_wf b rfl hlo ha
  | cons c m ih =>
    obtain ⟨a', b'⟩ := c
    have h0 := h
    simp only [Memory.wfFrom, Bool.and_eq_true, decide_eq_true_eq] at h
    unfold memWrite
    split
    · next hlt =>
      refine memCons_wf b ?_ hlo ha
      simp only [Memory.wfFrom, Bool.and_eq_true, decide_eq_true_eq]
      exact ⟨⟨⟨by omega, h.1.1.2⟩, h.1.2⟩, h.2⟩
    · split
      · next heq => subst heq; exact memCons_wf b h.2 hlo ha
      · simp only [Memory.wfFrom, Bool.and_eq_true, decide_eq_true_eq]
        exact ⟨h.1, ih h.2 (by omega)⟩

/-- A host store keeps the canonical form (R60, R63). -/
theorem memWrite_wf {m : List Host.Cell} (a : BitVec 16) (b : Byte) (h : Memory.wf m = true) :
    Memory.wf (memWrite m a.toNat b) = true :=
  memWrite_wfFrom b h (Nat.zero_le _) a.isLt

/-- The one unit that writes host memory keeps the canonical form. -/
theorem hostStore_wf {s t : State} {a : BitVec 16} {b : Byte} (h : hostStore a b s = .next t)
    (hw : Memory.wf s.hostMem = true) : Memory.wf t.hostMem = true := by
  unfold hostStore at h
  split at h
  · simp at h
  · cases h; exact memWrite_wf a b hw

/-- Host memory at reset is in canonical form. -/
theorem reset_mem_wf : Memory.wf State.reset.hostMem = true := rfl

/-- A range read answers exactly when the range lies in the address space, and then with the bytes there, in rising
order (R63). -/
theorem memReadRange_eq_some {m : Memory} {p n : Nat} {l : List Byte} :
    memReadRange m p n = some l ↔
      p + n ≤ 65536 ∧ l.length = n ∧ ∀ i, i < n → l[i]? = some (memRead m (p + i)) := by
  unfold memReadRange Config.hostMemSize
  split
  · next h =>
    constructor
    · intro e; cases e
      refine ⟨h, by simp, fun i hi => by simp [hi]⟩
    · rintro ⟨-, hl, hg⟩
      congr 1
      apply List.ext_getElem?
      intro i
      by_cases hi : i < n
      · rw [hg i hi]; simp [hi]
      · rw [List.getElem?_eq_none (by simp; omega), List.getElem?_eq_none (by omega)]
  · next h => simp; omega

/-- A range read fails only past the address space (R63). -/
theorem memReadRange_eq_none {m : Memory} {p n : Nat} : memReadRange m p n = none ↔ 65536 < p + n := by
  unfold memReadRange Config.hostMemSize
  split <;> simp <;> omega

/-- The payload bytes, when the range check of R63 passes. -/
theorem payloadBytes_eq_none {s : State} :
    payloadBytes s = none ↔ 65536 < s.argPtr.toNat + min s.argLen.toNat 61 := memReadRange_eq_none

/-- What the payload bytes are (R151). -/
theorem payloadBytes_eq_some {s : State} {l : List Byte} :
    payloadBytes s = some l ↔
      s.argPtr.toNat + min s.argLen.toNat 61 ≤ 65536 ∧ l.length = min s.argLen.toNat 61 ∧
        ∀ i, i < min s.argLen.toNat 61 → l[i]? = some (memRead s.hostMem (s.argPtr.toNat + i)) :=
  memReadRange_eq_some

/-- What the key bytes are (R276). -/
theorem keyBytes_eq_some {s : State} {k : List Byte} :
    keyBytes s = some k ↔
      s.argPtr.toNat + 16 ≤ 65536 ∧ k.length = 16 ∧
        ∀ i, i < 16 → k[i]? = some (memRead s.hostMem (s.argPtr.toNat + i)) :=
  memReadRange_eq_some

/-- The key bytes fail only past the address space (R63). -/
theorem keyBytes_eq_none {s : State} : keyBytes s = none ↔ 65536 < s.argPtr.toNat + 16 := memReadRange_eq_none

end Sys2Proof.Machine
end

