-- ==== Sys2Proof/Laws/State.lean ====
section
/-! SUPPORT. What each named update of the state writes and what it leaves: one lemma per field, true by rfl. -/

namespace Sys2Proof.Machine

/-! ### toPhase: the sequencer's phase (R49) -/

@[simp] theorem toPhase_params (p : Phase) (s : State) : (toPhase p s).params = s.params := rfl
@[simp] theorem toPhase_cmd (p : Phase) (s : State) : (toPhase p s).cmd = s.cmd := rfl
@[simp] theorem toPhase_argLen (p : Phase) (s : State) : (toPhase p s).argLen = s.argLen := rfl
@[simp] theorem toPhase_argPtr (p : Phase) (s : State) : (toPhase p s).argPtr = s.argPtr := rfl
@[simp] theorem toPhase_argTmo (p : Phase) (s : State) : (toPhase p s).argTmo = s.argTmo := rfl
@[simp] theorem toPhase_argFreq (p : Phase) (s : State) : (toPhase p s).argFreq = s.argFreq := rfl
@[simp] theorem toPhase_result (p : Phase) (s : State) : (toPhase p s).result = s.result := rfl
@[simp] theorem toPhase_faultInfo (p : Phase) (s : State) : (toPhase p s).faultInfo = s.faultInfo := rfl
@[simp] theorem toPhase_busy (p : Phase) (s : State) : (toPhase p s).busy = s.busy := rfl
@[simp] theorem toPhase_initDone (p : Phase) (s : State) : (toPhase p s).initDone = s.initDone := rfl
@[simp] theorem toPhase_faultCode (p : Phase) (s : State) : (toPhase p s).faultCode = s.faultCode := rfl
@[simp] theorem toPhase_ownAddr (p : Phase) (s : State) : (toPhase p s).ownAddr = s.ownAddr := rfl
@[simp] theorem toPhase_netId (p : Phase) (s : State) : (toPhase p s).netId = s.netId := rfl
@[simp] theorem toPhase_promisc (p : Phase) (s : State) : (toPhase p s).promisc = s.promisc := rfl
@[simp] theorem toPhase_mode (p : Phase) (s : State) : (toPhase p s).mode = s.mode := rfl
@[simp] theorem toPhase_hpOn (p : Phase) (s : State) : (toPhase p s).hpOn = s.hpOn := rfl
@[simp] theorem toPhase_chipMode (p : Phase) (s : State) : (toPhase p s).chipMode = s.chipMode := rfl
@[simp] theorem toPhase_dio0Map (p : Phase) (s : State) : (toPhase p s).dio0Map = s.dio0Map := rfl
@[simp] theorem toPhase_slot (p : Phase) (s : State) : (toPhase p s).slot = s.slot := rfl
@[simp] theorem toPhase_ie (p : Phase) (s : State) : (toPhase p s).ie = s.ie := rfl
@[simp] theorem toPhase_inIsr (p : Phase) (s : State) : (toPhase p s).inIsr = s.inIsr := rfl
@[simp] theorem toPhase_irqPending (p : Phase) (s : State) : (toPhase p s).irqPending = s.irqPending := rfl
@[simp] theorem toPhase_curCmd (p : Phase) (s : State) : (toPhase p s).curCmd = s.curCmd := rfl
@[simp] theorem toPhase_phase (p : Phase) (s : State) : (toPhase p s).phase = p := rfl
@[simp] theorem toPhase_work (p : Phase) (s : State) : (toPhase p s).work = s.work := rfl
@[simp] theorem toPhase_chip (p : Phase) (s : State) : (toPhase p s).chip = s.chip := rfl
@[simp] theorem toPhase_clock (p : Phase) (s : State) : (toPhase p s).clock = s.clock := rfl
@[simp] theorem toPhase_hostMem (p : Phase) (s : State) : (toPhase p s).hostMem = s.hostMem := rfl
@[simp] theorem toPhase_answers (p : Phase) (s : State) : (toPhase p s).answers = s.answers := rfl
@[simp] theorem toPhase_draws (p : Phase) (s : State) : (toPhase p s).draws = s.draws := rfl
@[simp] theorem toPhase_inputs (p : Phase) (s : State) : (toPhase p s).inputs = s.inputs := rfl
@[simp] theorem toPhase_busTrace (p : Phase) (s : State) : (toPhase p s).busTrace = s.busTrace := rfl
@[simp] theorem toPhase_hostData (p : Phase) (s : State) : (toPhase p s).hostData = s.hostData := rfl

/-! ### finish: the end of a command (R7) -/

@[simp] theorem finish_params (s : State) : (finish s).params = s.params := rfl
@[simp] theorem finish_cmd (s : State) : (finish s).cmd = s.cmd := rfl
@[simp] theorem finish_argLen (s : State) : (finish s).argLen = s.argLen := rfl
@[simp] theorem finish_argPtr (s : State) : (finish s).argPtr = s.argPtr := rfl
@[simp] theorem finish_argTmo (s : State) : (finish s).argTmo = s.argTmo := rfl
@[simp] theorem finish_argFreq (s : State) : (finish s).argFreq = s.argFreq := rfl
@[simp] theorem finish_result (s : State) : (finish s).result = s.result := rfl
@[simp] theorem finish_faultInfo (s : State) : (finish s).faultInfo = s.faultInfo := rfl
@[simp] theorem finish_busy (s : State) : (finish s).busy = false := rfl
@[simp] theorem finish_initDone (s : State) : (finish s).initDone = s.initDone := rfl
@[simp] theorem finish_faultCode (s : State) : (finish s).faultCode = s.faultCode := rfl
@[simp] theorem finish_ownAddr (s : State) : (finish s).ownAddr = s.ownAddr := rfl
@[simp] theorem finish_netId (s : State) : (finish s).netId = s.netId := rfl
@[simp] theorem finish_promisc (s : State) : (finish s).promisc = s.promisc := rfl
@[simp] theorem finish_mode (s : State) : (finish s).mode = s.mode := rfl
@[simp] theorem finish_hpOn (s : State) : (finish s).hpOn = s.hpOn := rfl
@[simp] theorem finish_chipMode (s : State) : (finish s).chipMode = s.chipMode := rfl
@[simp] theorem finish_dio0Map (s : State) : (finish s).dio0Map = s.dio0Map := rfl
@[simp] theorem finish_slot (s : State) : (finish s).slot = s.slot := rfl
@[simp] theorem finish_ie (s : State) : (finish s).ie = s.ie := rfl
@[simp] theorem finish_inIsr (s : State) : (finish s).inIsr = s.inIsr := rfl
@[simp] theorem finish_irqPending (s : State) : (finish s).irqPending = s.irqPending := rfl
@[simp] theorem finish_curCmd (s : State) : (finish s).curCmd = s.curCmd := rfl
@[simp] theorem finish_phase (s : State) : (finish s).phase = .start := rfl
@[simp] theorem finish_work (s : State) : (finish s).work = s.work := rfl
@[simp] theorem finish_chip (s : State) : (finish s).chip = s.chip := rfl
@[simp] theorem finish_clock (s : State) : (finish s).clock = s.clock := rfl
@[simp] theorem finish_hostMem (s : State) : (finish s).hostMem = s.hostMem := rfl
@[simp] theorem finish_answers (s : State) : (finish s).answers = s.answers := rfl
@[simp] theorem finish_draws (s : State) : (finish s).draws = s.draws := rfl
@[simp] theorem finish_inputs (s : State) : (finish s).inputs = s.inputs := rfl
@[simp] theorem finish_busTrace (s : State) : (finish s).busTrace = s.busTrace := rfl
@[simp] theorem finish_hostData (s : State) : (finish s).hostData = s.hostData := rfl

/-! ### finishWith: the end of a command with a result (R7, R27) -/

@[simp] theorem finishWith_params (v : Word) (s : State) : (finishWith v s).params = s.params := rfl
@[simp] theorem finishWith_cmd (v : Word) (s : State) : (finishWith v s).cmd = s.cmd := rfl
@[simp] theorem finishWith_argLen (v : Word) (s : State) : (finishWith v s).argLen = s.argLen := rfl
@[simp] theorem finishWith_argPtr (v : Word) (s : State) : (finishWith v s).argPtr = s.argPtr := rfl
@[simp] theorem finishWith_argTmo (v : Word) (s : State) : (finishWith v s).argTmo = s.argTmo := rfl
@[simp] theorem finishWith_argFreq (v : Word) (s : State) : (finishWith v s).argFreq = s.argFreq := rfl
@[simp] theorem finishWith_result (v : Word) (s : State) : (finishWith v s).result = v := rfl
@[simp] theorem finishWith_faultInfo (v : Word) (s : State) : (finishWith v s).faultInfo = s.faultInfo := rfl
@[simp] theorem finishWith_busy (v : Word) (s : State) : (finishWith v s).busy = false := rfl
@[simp] theorem finishWith_initDone (v : Word) (s : State) : (finishWith v s).initDone = s.initDone := rfl
@[simp] theorem finishWith_faultCode (v : Word) (s : State) : (finishWith v s).faultCode = s.faultCode := rfl
@[simp] theorem finishWith_ownAddr (v : Word) (s : State) : (finishWith v s).ownAddr = s.ownAddr := rfl
@[simp] theorem finishWith_netId (v : Word) (s : State) : (finishWith v s).netId = s.netId := rfl
@[simp] theorem finishWith_promisc (v : Word) (s : State) : (finishWith v s).promisc = s.promisc := rfl
@[simp] theorem finishWith_mode (v : Word) (s : State) : (finishWith v s).mode = s.mode := rfl
@[simp] theorem finishWith_hpOn (v : Word) (s : State) : (finishWith v s).hpOn = s.hpOn := rfl
@[simp] theorem finishWith_chipMode (v : Word) (s : State) : (finishWith v s).chipMode = s.chipMode := rfl
@[simp] theorem finishWith_dio0Map (v : Word) (s : State) : (finishWith v s).dio0Map = s.dio0Map := rfl
@[simp] theorem finishWith_slot (v : Word) (s : State) : (finishWith v s).slot = s.slot := rfl
@[simp] theorem finishWith_ie (v : Word) (s : State) : (finishWith v s).ie = s.ie := rfl
@[simp] theorem finishWith_inIsr (v : Word) (s : State) : (finishWith v s).inIsr = s.inIsr := rfl
@[simp] theorem finishWith_irqPending (v : Word) (s : State) : (finishWith v s).irqPending = s.irqPending := rfl
@[simp] theorem finishWith_curCmd (v : Word) (s : State) : (finishWith v s).curCmd = s.curCmd := rfl
@[simp] theorem finishWith_phase (v : Word) (s : State) : (finishWith v s).phase = .start := rfl
@[simp] theorem finishWith_work (v : Word) (s : State) : (finishWith v s).work = s.work := rfl
@[simp] theorem finishWith_chip (v : Word) (s : State) : (finishWith v s).chip = s.chip := rfl
@[simp] theorem finishWith_clock (v : Word) (s : State) : (finishWith v s).clock = s.clock := rfl
@[simp] theorem finishWith_hostMem (v : Word) (s : State) : (finishWith v s).hostMem = s.hostMem := rfl
@[simp] theorem finishWith_answers (v : Word) (s : State) : (finishWith v s).answers = s.answers := rfl
@[simp] theorem finishWith_draws (v : Word) (s : State) : (finishWith v s).draws = s.draws := rfl
@[simp] theorem finishWith_inputs (v : Word) (s : State) : (finishWith v s).inputs = s.inputs := rfl
@[simp] theorem finishWith_busTrace (v : Word) (s : State) : (finishWith v s).busTrace = s.busTrace := rfl
@[simp] theorem finishWith_hostData (v : Word) (s : State) : (finishWith v s).hostData = s.hostData := rfl

/-! ### raiseFault: fault entry (R303) -/

@[simp] theorem raiseFault_params (c : FaultCode) (s : State) : (raiseFault c s).params = s.params := rfl
@[simp] theorem raiseFault_cmd (c : FaultCode) (s : State) : (raiseFault c s).cmd = s.cmd := rfl
@[simp] theorem raiseFault_argLen (c : FaultCode) (s : State) : (raiseFault c s).argLen = s.argLen := rfl
@[simp] theorem raiseFault_argPtr (c : FaultCode) (s : State) : (raiseFault c s).argPtr = s.argPtr := rfl
@[simp] theorem raiseFault_argTmo (c : FaultCode) (s : State) : (raiseFault c s).argTmo = s.argTmo := rfl
@[simp] theorem raiseFault_argFreq (c : FaultCode) (s : State) : (raiseFault c s).argFreq = s.argFreq := rfl
@[simp] theorem raiseFault_result (c : FaultCode) (s : State) : (raiseFault c s).result = s.result := rfl
@[simp] theorem raiseFault_faultInfo (c : FaultCode) (s : State) : (raiseFault c s).faultInfo = s.curCmd := rfl
@[simp] theorem raiseFault_busy (c : FaultCode) (s : State) : (raiseFault c s).busy = true := rfl
@[simp] theorem raiseFault_initDone (c : FaultCode) (s : State) : (raiseFault c s).initDone = s.initDone := rfl
@[simp] theorem raiseFault_faultCode (c : FaultCode) (s : State) : (raiseFault c s).faultCode = c := rfl
@[simp] theorem raiseFault_ownAddr (c : FaultCode) (s : State) : (raiseFault c s).ownAddr = s.ownAddr := rfl
@[simp] theorem raiseFault_netId (c : FaultCode) (s : State) : (raiseFault c s).netId = s.netId := rfl
@[simp] theorem raiseFault_promisc (c : FaultCode) (s : State) : (raiseFault c s).promisc = s.promisc := rfl
@[simp] theorem raiseFault_mode (c : FaultCode) (s : State) : (raiseFault c s).mode = s.mode := rfl
@[simp] theorem raiseFault_hpOn (c : FaultCode) (s : State) : (raiseFault c s).hpOn = s.hpOn := rfl
@[simp] theorem raiseFault_chipMode (c : FaultCode) (s : State) : (raiseFault c s).chipMode = s.chipMode := rfl
@[simp] theorem raiseFault_dio0Map (c : FaultCode) (s : State) : (raiseFault c s).dio0Map = s.dio0Map := rfl
@[simp] theorem raiseFault_slot (c : FaultCode) (s : State) : (raiseFault c s).slot = s.slot := rfl
@[simp] theorem raiseFault_ie (c : FaultCode) (s : State) : (raiseFault c s).ie = s.ie := rfl
@[simp] theorem raiseFault_inIsr (c : FaultCode) (s : State) : (raiseFault c s).inIsr = s.inIsr := rfl
@[simp] theorem raiseFault_irqPending (c : FaultCode) (s : State) : (raiseFault c s).irqPending = s.irqPending := rfl
@[simp] theorem raiseFault_curCmd (c : FaultCode) (s : State) : (raiseFault c s).curCmd = s.curCmd := rfl
@[simp] theorem raiseFault_phase (c : FaultCode) (s : State) : (raiseFault c s).phase = s.phase := rfl
@[simp] theorem raiseFault_work (c : FaultCode) (s : State) : (raiseFault c s).work = s.work := rfl
@[simp] theorem raiseFault_chip (c : FaultCode) (s : State) : (raiseFault c s).chip = s.chip := rfl
@[simp] theorem raiseFault_clock (c : FaultCode) (s : State) : (raiseFault c s).clock = s.clock := rfl
@[simp] theorem raiseFault_hostMem (c : FaultCode) (s : State) : (raiseFault c s).hostMem = s.hostMem := rfl
@[simp] theorem raiseFault_answers (c : FaultCode) (s : State) : (raiseFault c s).answers = s.answers := rfl
@[simp] theorem raiseFault_draws (c : FaultCode) (s : State) : (raiseFault c s).draws = s.draws := rfl
@[simp] theorem raiseFault_inputs (c : FaultCode) (s : State) : (raiseFault c s).inputs = s.inputs := rfl
@[simp] theorem raiseFault_busTrace (c : FaultCode) (s : State) : (raiseFault c s).busTrace = s.busTrace := rfl
@[simp] theorem raiseFault_hostData (c : FaultCode) (s : State) : (raiseFault c s).hostData = s.hostData := rfl

/-! ### capEntry: interrupt entry (R309) -/

@[simp] theorem capEntry_params (s : State) : (capEntry s).params = s.params := rfl
@[simp] theorem capEntry_cmd (s : State) : (capEntry s).cmd = s.cmd := rfl
@[simp] theorem capEntry_argLen (s : State) : (capEntry s).argLen = s.argLen := rfl
@[simp] theorem capEntry_argPtr (s : State) : (capEntry s).argPtr = s.argPtr := rfl
@[simp] theorem capEntry_argTmo (s : State) : (capEntry s).argTmo = s.argTmo := rfl
@[simp] theorem capEntry_argFreq (s : State) : (capEntry s).argFreq = s.argFreq := rfl
@[simp] theorem capEntry_result (s : State) : (capEntry s).result = s.result := rfl
@[simp] theorem capEntry_faultInfo (s : State) : (capEntry s).faultInfo = s.faultInfo := rfl
@[simp] theorem capEntry_busy (s : State) : (capEntry s).busy = s.busy := rfl
@[simp] theorem capEntry_initDone (s : State) : (capEntry s).initDone = s.initDone := rfl
@[simp] theorem capEntry_faultCode (s : State) : (capEntry s).faultCode = s.faultCode := rfl
@[simp] theorem capEntry_ownAddr (s : State) : (capEntry s).ownAddr = s.ownAddr := rfl
@[simp] theorem capEntry_netId (s : State) : (capEntry s).netId = s.netId := rfl
@[simp] theorem capEntry_promisc (s : State) : (capEntry s).promisc = s.promisc := rfl
@[simp] theorem capEntry_mode (s : State) : (capEntry s).mode = s.mode := rfl
@[simp] theorem capEntry_hpOn (s : State) : (capEntry s).hpOn = s.hpOn := rfl
@[simp] theorem capEntry_chipMode (s : State) : (capEntry s).chipMode = s.chipMode := rfl
@[simp] theorem capEntry_dio0Map (s : State) : (capEntry s).dio0Map = s.dio0Map := rfl
@[simp] theorem capEntry_slot (s : State) : (capEntry s).slot = s.slot := rfl
@[simp] theorem capEntry_ie (s : State) : (capEntry s).ie = false := rfl
@[simp] theorem capEntry_inIsr (s : State) : (capEntry s).inIsr = true := rfl
@[simp] theorem capEntry_irqPending (s : State) : (capEntry s).irqPending = false := rfl
@[simp] theorem capEntry_curCmd (s : State) : (capEntry s).curCmd = s.curCmd := rfl
@[simp] theorem capEntry_phase (s : State) : (capEntry s).phase = s.phase := rfl
@[simp] theorem capEntry_work (s : State) : (capEntry s).work = s.work := rfl
@[simp] theorem capEntry_chip (s : State) : (capEntry s).chip = s.chip := rfl
@[simp] theorem capEntry_clock (s : State) : (capEntry s).clock = s.clock := rfl
@[simp] theorem capEntry_hostMem (s : State) : (capEntry s).hostMem = s.hostMem := rfl
@[simp] theorem capEntry_answers (s : State) : (capEntry s).answers = s.answers := rfl
@[simp] theorem capEntry_draws (s : State) : (capEntry s).draws = s.draws := rfl
@[simp] theorem capEntry_inputs (s : State) : (capEntry s).inputs = s.inputs := rfl
@[simp] theorem capEntry_busTrace (s : State) : (capEntry s).busTrace = s.busTrace := rfl
@[simp] theorem capEntry_hostData (s : State) : (capEntry s).hostData = s.hostData := rfl

/-! ### capExit: interrupt return (R309) -/

@[simp] theorem capExit_params (s : State) : (capExit s).params = s.params := rfl
@[simp] theorem capExit_cmd (s : State) : (capExit s).cmd = s.cmd := rfl
@[simp] theorem capExit_argLen (s : State) : (capExit s).argLen = s.argLen := rfl
@[simp] theorem capExit_argPtr (s : State) : (capExit s).argPtr = s.argPtr := rfl
@[simp] theorem capExit_argTmo (s : State) : (capExit s).argTmo = s.argTmo := rfl
@[simp] theorem capExit_argFreq (s : State) : (capExit s).argFreq = s.argFreq := rfl
@[simp] theorem capExit_result (s : State) : (capExit s).result = s.result := rfl
@[simp] theorem capExit_faultInfo (s : State) : (capExit s).faultInfo = s.faultInfo := rfl
@[simp] theorem capExit_busy (s : State) : (capExit s).busy = s.busy := rfl
@[simp] theorem capExit_initDone (s : State) : (capExit s).initDone = s.initDone := rfl
@[simp] theorem capExit_faultCode (s : State) : (capExit s).faultCode = s.faultCode := rfl
@[simp] theorem capExit_ownAddr (s : State) : (capExit s).ownAddr = s.ownAddr := rfl
@[simp] theorem capExit_netId (s : State) : (capExit s).netId = s.netId := rfl
@[simp] theorem capExit_promisc (s : State) : (capExit s).promisc = s.promisc := rfl
@[simp] theorem capExit_mode (s : State) : (capExit s).mode = s.mode := rfl
@[simp] theorem capExit_hpOn (s : State) : (capExit s).hpOn = s.hpOn := rfl
@[simp] theorem capExit_chipMode (s : State) : (capExit s).chipMode = s.chipMode := rfl
@[simp] theorem capExit_dio0Map (s : State) : (capExit s).dio0Map = s.dio0Map := rfl
@[simp] theorem capExit_slot (s : State) : (capExit s).slot = s.slot := rfl
@[simp] theorem capExit_ie (s : State) : (capExit s).ie = true := rfl
@[simp] theorem capExit_inIsr (s : State) : (capExit s).inIsr = false := rfl
@[simp] theorem capExit_irqPending (s : State) : (capExit s).irqPending = s.irqPending := rfl
@[simp] theorem capExit_curCmd (s : State) : (capExit s).curCmd = s.curCmd := rfl
@[simp] theorem capExit_phase (s : State) : (capExit s).phase = s.phase := rfl
@[simp] theorem capExit_work (s : State) : (capExit s).work = s.work := rfl
@[simp] theorem capExit_chip (s : State) : (capExit s).chip = s.chip := rfl
@[simp] theorem capExit_clock (s : State) : (capExit s).clock = s.clock := rfl
@[simp] theorem capExit_hostMem (s : State) : (capExit s).hostMem = s.hostMem := rfl
@[simp] theorem capExit_answers (s : State) : (capExit s).answers = s.answers := rfl
@[simp] theorem capExit_draws (s : State) : (capExit s).draws = s.draws := rfl
@[simp] theorem capExit_inputs (s : State) : (capExit s).inputs = s.inputs := rfl
@[simp] theorem capExit_busTrace (s : State) : (capExit s).busTrace = s.busTrace := rfl
@[simp] theorem capExit_hostData (s : State) : (capExit s).hostData = s.hostData := rfl

/-! ### clearSlot: the slot fields ReceiveBegin clears (R171) -/

@[simp] theorem clearSlot_params (s : State) : (clearSlot s).params = s.params := rfl
@[simp] theorem clearSlot_cmd (s : State) : (clearSlot s).cmd = s.cmd := rfl
@[simp] theorem clearSlot_argLen (s : State) : (clearSlot s).argLen = s.argLen := rfl
@[simp] theorem clearSlot_argPtr (s : State) : (clearSlot s).argPtr = s.argPtr := rfl
@[simp] theorem clearSlot_argTmo (s : State) : (clearSlot s).argTmo = s.argTmo := rfl
@[simp] theorem clearSlot_argFreq (s : State) : (clearSlot s).argFreq = s.argFreq := rfl
@[simp] theorem clearSlot_result (s : State) : (clearSlot s).result = s.result := rfl
@[simp] theorem clearSlot_faultInfo (s : State) : (clearSlot s).faultInfo = s.faultInfo := rfl
@[simp] theorem clearSlot_busy (s : State) : (clearSlot s).busy = s.busy := rfl
@[simp] theorem clearSlot_initDone (s : State) : (clearSlot s).initDone = s.initDone := rfl
@[simp] theorem clearSlot_faultCode (s : State) : (clearSlot s).faultCode = s.faultCode := rfl
@[simp] theorem clearSlot_ownAddr (s : State) : (clearSlot s).ownAddr = s.ownAddr := rfl
@[simp] theorem clearSlot_netId (s : State) : (clearSlot s).netId = s.netId := rfl
@[simp] theorem clearSlot_promisc (s : State) : (clearSlot s).promisc = s.promisc := rfl
@[simp] theorem clearSlot_mode (s : State) : (clearSlot s).mode = s.mode := rfl
@[simp] theorem clearSlot_hpOn (s : State) : (clearSlot s).hpOn = s.hpOn := rfl
@[simp] theorem clearSlot_chipMode (s : State) : (clearSlot s).chipMode = s.chipMode := rfl
@[simp] theorem clearSlot_dio0Map (s : State) : (clearSlot s).dio0Map = s.dio0Map := rfl
@[simp] theorem clearSlot_slot (s : State) : (clearSlot s).slot = { resetSlot with payload := s.slot.payload } := rfl
@[simp] theorem clearSlot_ie (s : State) : (clearSlot s).ie = s.ie := rfl
@[simp] theorem clearSlot_inIsr (s : State) : (clearSlot s).inIsr = s.inIsr := rfl
@[simp] theorem clearSlot_irqPending (s : State) : (clearSlot s).irqPending = s.irqPending := rfl
@[simp] theorem clearSlot_curCmd (s : State) : (clearSlot s).curCmd = s.curCmd := rfl
@[simp] theorem clearSlot_phase (s : State) : (clearSlot s).phase = s.phase := rfl
@[simp] theorem clearSlot_work (s : State) : (clearSlot s).work = s.work := rfl
@[simp] theorem clearSlot_chip (s : State) : (clearSlot s).chip = s.chip := rfl
@[simp] theorem clearSlot_clock (s : State) : (clearSlot s).clock = s.clock := rfl
@[simp] theorem clearSlot_hostMem (s : State) : (clearSlot s).hostMem = s.hostMem := rfl
@[simp] theorem clearSlot_answers (s : State) : (clearSlot s).answers = s.answers := rfl
@[simp] theorem clearSlot_draws (s : State) : (clearSlot s).draws = s.draws := rfl
@[simp] theorem clearSlot_inputs (s : State) : (clearSlot s).inputs = s.inputs := rfl
@[simp] theorem clearSlot_busTrace (s : State) : (clearSlot s).busTrace = s.busTrace := rfl
@[simp] theorem clearSlot_hostData (s : State) : (clearSlot s).hostData = s.hostData := rfl

/-! ### enterReadyWait: the start of a mode-ready wait (R132) -/

@[simp] theorem enterReadyWait_params (p : Phase) (s : State) : (enterReadyWait p s).params = s.params := rfl
@[simp] theorem enterReadyWait_cmd (p : Phase) (s : State) : (enterReadyWait p s).cmd = s.cmd := rfl
@[simp] theorem enterReadyWait_argLen (p : Phase) (s : State) : (enterReadyWait p s).argLen = s.argLen := rfl
@[simp] theorem enterReadyWait_argPtr (p : Phase) (s : State) : (enterReadyWait p s).argPtr = s.argPtr := rfl
@[simp] theorem enterReadyWait_argTmo (p : Phase) (s : State) : (enterReadyWait p s).argTmo = s.argTmo := rfl
@[simp] theorem enterReadyWait_argFreq (p : Phase) (s : State) : (enterReadyWait p s).argFreq = s.argFreq := rfl
@[simp] theorem enterReadyWait_result (p : Phase) (s : State) : (enterReadyWait p s).result = s.result := rfl
@[simp] theorem enterReadyWait_faultInfo (p : Phase) (s : State) : (enterReadyWait p s).faultInfo = s.faultInfo := rfl
@[simp] theorem enterReadyWait_busy (p : Phase) (s : State) : (enterReadyWait p s).busy = s.busy := rfl
@[simp] theorem enterReadyWait_initDone (p : Phase) (s : State) : (enterReadyWait p s).initDone = s.initDone := rfl
@[simp] theorem enterReadyWait_faultCode (p : Phase) (s : State) : (enterReadyWait p s).faultCode = s.faultCode := rfl
@[simp] theorem enterReadyWait_ownAddr (p : Phase) (s : State) : (enterReadyWait p s).ownAddr = s.ownAddr := rfl
@[simp] theorem enterReadyWait_netId (p : Phase) (s : State) : (enterReadyWait p s).netId = s.netId := rfl
@[simp] theorem enterReadyWait_promisc (p : Phase) (s : State) : (enterReadyWait p s).promisc = s.promisc := rfl
@[simp] theorem enterReadyWait_mode (p : Phase) (s : State) : (enterReadyWait p s).mode = s.mode := rfl
@[simp] theorem enterReadyWait_hpOn (p : Phase) (s : State) : (enterReadyWait p s).hpOn = s.hpOn := rfl
@[simp] theorem enterReadyWait_chipMode (p : Phase) (s : State) : (enterReadyWait p s).chipMode = s.chipMode := rfl
@[simp] theorem enterReadyWait_dio0Map (p : Phase) (s : State) : (enterReadyWait p s).dio0Map = s.dio0Map := rfl
@[simp] theorem enterReadyWait_slot (p : Phase) (s : State) : (enterReadyWait p s).slot = s.slot := rfl
@[simp] theorem enterReadyWait_ie (p : Phase) (s : State) : (enterReadyWait p s).ie = s.ie := rfl
@[simp] theorem enterReadyWait_inIsr (p : Phase) (s : State) : (enterReadyWait p s).inIsr = s.inIsr := rfl
@[simp] theorem enterReadyWait_irqPending (p : Phase) (s : State) : (enterReadyWait p s).irqPending = s.irqPending := rfl
@[simp] theorem enterReadyWait_curCmd (p : Phase) (s : State) : (enterReadyWait p s).curCmd = s.curCmd := rfl
@[simp] theorem enterReadyWait_phase (p : Phase) (s : State) : (enterReadyWait p s).phase = p := rfl
@[simp] theorem enterReadyWait_work (p : Phase) (s : State) : (enterReadyWait p s).work = { s.work with tMr := s.clock } := rfl
@[simp] theorem enterReadyWait_chip (p : Phase) (s : State) : (enterReadyWait p s).chip = s.chip := rfl
@[simp] theorem enterReadyWait_clock (p : Phase) (s : State) : (enterReadyWait p s).clock = s.clock := rfl
@[simp] theorem enterReadyWait_hostMem (p : Phase) (s : State) : (enterReadyWait p s).hostMem = s.hostMem := rfl
@[simp] theorem enterReadyWait_answers (p : Phase) (s : State) : (enterReadyWait p s).answers = s.answers := rfl
@[simp] theorem enterReadyWait_draws (p : Phase) (s : State) : (enterReadyWait p s).draws = s.draws := rfl
@[simp] theorem enterReadyWait_inputs (p : Phase) (s : State) : (enterReadyWait p s).inputs = s.inputs := rfl
@[simp] theorem enterReadyWait_busTrace (p : Phase) (s : State) : (enterReadyWait p s).busTrace = s.busTrace := rfl
@[simp] theorem enterReadyWait_hostData (p : Phase) (s : State) : (enterReadyWait p s).hostData = s.hostData := rfl

/-! ### startCommand: a host write of CMD (R62) -/

@[simp] theorem startCommand_params (w : Word) (s : State) : (startCommand w s).params = s.params := rfl
@[simp] theorem startCommand_cmd (w : Word) (s : State) : (startCommand w s).cmd = w := rfl
@[simp] theorem startCommand_argLen (w : Word) (s : State) : (startCommand w s).argLen = s.argLen := rfl
@[simp] theorem startCommand_argPtr (w : Word) (s : State) : (startCommand w s).argPtr = s.argPtr := rfl
@[simp] theorem startCommand_argTmo (w : Word) (s : State) : (startCommand w s).argTmo = s.argTmo := rfl
@[simp] theorem startCommand_argFreq (w : Word) (s : State) : (startCommand w s).argFreq = s.argFreq := rfl
@[simp] theorem startCommand_result (w : Word) (s : State) : (startCommand w s).result = s.result := rfl
@[simp] theorem startCommand_faultInfo (w : Word) (s : State) : (startCommand w s).faultInfo = s.faultInfo := rfl
@[simp] theorem startCommand_busy (w : Word) (s : State) : (startCommand w s).busy = true := rfl
@[simp] theorem startCommand_initDone (w : Word) (s : State) : (startCommand w s).initDone = s.initDone := rfl
@[simp] theorem startCommand_faultCode (w : Word) (s : State) : (startCommand w s).faultCode = s.faultCode := rfl
@[simp] theorem startCommand_ownAddr (w : Word) (s : State) : (startCommand w s).ownAddr = s.ownAddr := rfl
@[simp] theorem startCommand_netId (w : Word) (s : State) : (startCommand w s).netId = s.netId := rfl
@[simp] theorem startCommand_promisc (w : Word) (s : State) : (startCommand w s).promisc = s.promisc := rfl
@[simp] theorem startCommand_mode (w : Word) (s : State) : (startCommand w s).mode = s.mode := rfl
@[simp] theorem startCommand_hpOn (w : Word) (s : State) : (startCommand w s).hpOn = s.hpOn := rfl
@[simp] theorem startCommand_chipMode (w : Word) (s : State) : (startCommand w s).chipMode = s.chipMode := rfl
@[simp] theorem startCommand_dio0Map (w : Word) (s : State) : (startCommand w s).dio0Map = s.dio0Map := rfl
@[simp] theorem startCommand_slot (w : Word) (s : State) : (startCommand w s).slot = s.slot := rfl
@[simp] theorem startCommand_ie (w : Word) (s : State) : (startCommand w s).ie = s.ie := rfl
@[simp] theorem startCommand_inIsr (w : Word) (s : State) : (startCommand w s).inIsr = s.inIsr := rfl
@[simp] theorem startCommand_irqPending (w : Word) (s : State) : (startCommand w s).irqPending = s.irqPending := rfl
@[simp] theorem startCommand_curCmd (w : Word) (s : State) : (startCommand w s).curCmd = w := rfl
@[simp] theorem startCommand_phase (w : Word) (s : State) : (startCommand w s).phase = .start := rfl
@[simp] theorem startCommand_work (w : Word) (s : State) : (startCommand w s).work = s.work := rfl
@[simp] theorem startCommand_chip (w : Word) (s : State) : (startCommand w s).chip = s.chip := rfl
@[simp] theorem startCommand_clock (w : Word) (s : State) : (startCommand w s).clock = s.clock := rfl
@[simp] theorem startCommand_hostMem (w : Word) (s : State) : (startCommand w s).hostMem = s.hostMem := rfl
@[simp] theorem startCommand_answers (w : Word) (s : State) : (startCommand w s).answers = s.answers := rfl
@[simp] theorem startCommand_draws (w : Word) (s : State) : (startCommand w s).draws = s.draws := rfl
@[simp] theorem startCommand_inputs (w : Word) (s : State) : (startCommand w s).inputs = s.inputs := rfl
@[simp] theorem startCommand_busTrace (w : Word) (s : State) : (startCommand w s).busTrace = s.busTrace := rfl
@[simp] theorem startCommand_hostData (w : Word) (s : State) : (startCommand w s).hostData = s.hostData := rfl

/-! ### latchEdge: the DIO0 edge latch (R307) -/

/-- The latch writes IRQ_PENDING alone: it sets it on a rising edge (R307). -/
theorem latchEdge_eq (s t : State) :
    latchEdge s t = { t with irqPending := t.irqPending || (!dio0 s && dio0 t) } := by
  unfold latchEdge
  cases h : (!dio0 s && dio0 t) <;> simp

@[simp] theorem latchEdge_params (s t : State) : (latchEdge s t).params = t.params := by rw [latchEdge_eq]
@[simp] theorem latchEdge_cmd (s t : State) : (latchEdge s t).cmd = t.cmd := by rw [latchEdge_eq]
@[simp] theorem latchEdge_argLen (s t : State) : (latchEdge s t).argLen = t.argLen := by rw [latchEdge_eq]
@[simp] theorem latchEdge_argPtr (s t : State) : (latchEdge s t).argPtr = t.argPtr := by rw [latchEdge_eq]
@[simp] theorem latchEdge_argTmo (s t : State) : (latchEdge s t).argTmo = t.argTmo := by rw [latchEdge_eq]
@[simp] theorem latchEdge_argFreq (s t : State) : (latchEdge s t).argFreq = t.argFreq := by rw [latchEdge_eq]
@[simp] theorem latchEdge_result (s t : State) : (latchEdge s t).result = t.result := by rw [latchEdge_eq]
@[simp] theorem latchEdge_faultInfo (s t : State) : (latchEdge s t).faultInfo = t.faultInfo := by rw [latchEdge_eq]
@[simp] theorem latchEdge_busy (s t : State) : (latchEdge s t).busy = t.busy := by rw [latchEdge_eq]
@[simp] theorem latchEdge_initDone (s t : State) : (latchEdge s t).initDone = t.initDone := by rw [latchEdge_eq]
@[simp] theorem latchEdge_faultCode (s t : State) : (latchEdge s t).faultCode = t.faultCode := by rw [latchEdge_eq]
@[simp] theorem latchEdge_ownAddr (s t : State) : (latchEdge s t).ownAddr = t.ownAddr := by rw [latchEdge_eq]
@[simp] theorem latchEdge_netId (s t : State) : (latchEdge s t).netId = t.netId := by rw [latchEdge_eq]
@[simp] theorem latchEdge_promisc (s t : State) : (latchEdge s t).promisc = t.promisc := by rw [latchEdge_eq]
@[simp] theorem latchEdge_mode (s t : State) : (latchEdge s t).mode = t.mode := by rw [latchEdge_eq]
@[simp] theorem latchEdge_hpOn (s t : State) : (latchEdge s t).hpOn = t.hpOn := by rw [latchEdge_eq]
@[simp] theorem latchEdge_chipMode (s t : State) : (latchEdge s t).chipMode = t.chipMode := by rw [latchEdge_eq]
@[simp] theorem latchEdge_dio0Map (s t : State) : (latchEdge s t).dio0Map = t.dio0Map := by rw [latchEdge_eq]
@[simp] theorem latchEdge_slot (s t : State) : (latchEdge s t).slot = t.slot := by rw [latchEdge_eq]
@[simp] theorem latchEdge_ie (s t : State) : (latchEdge s t).ie = t.ie := by rw [latchEdge_eq]
@[simp] theorem latchEdge_inIsr (s t : State) : (latchEdge s t).inIsr = t.inIsr := by rw [latchEdge_eq]
@[simp] theorem latchEdge_irqPending (s t : State) :
    (latchEdge s t).irqPending = (t.irqPending || (!dio0 s && dio0 t)) := by rw [latchEdge_eq]
@[simp] theorem latchEdge_curCmd (s t : State) : (latchEdge s t).curCmd = t.curCmd := by rw [latchEdge_eq]
@[simp] theorem latchEdge_phase (s t : State) : (latchEdge s t).phase = t.phase := by rw [latchEdge_eq]
@[simp] theorem latchEdge_work (s t : State) : (latchEdge s t).work = t.work := by rw [latchEdge_eq]
@[simp] theorem latchEdge_chip (s t : State) : (latchEdge s t).chip = t.chip := by rw [latchEdge_eq]
@[simp] theorem latchEdge_clock (s t : State) : (latchEdge s t).clock = t.clock := by rw [latchEdge_eq]
@[simp] theorem latchEdge_hostMem (s t : State) : (latchEdge s t).hostMem = t.hostMem := by rw [latchEdge_eq]
@[simp] theorem latchEdge_answers (s t : State) : (latchEdge s t).answers = t.answers := by rw [latchEdge_eq]
@[simp] theorem latchEdge_draws (s t : State) : (latchEdge s t).draws = t.draws := by rw [latchEdge_eq]
@[simp] theorem latchEdge_inputs (s t : State) : (latchEdge s t).inputs = t.inputs := by rw [latchEdge_eq]
@[simp] theorem latchEdge_busTrace (s t : State) : (latchEdge s t).busTrace = t.busTrace := by rw [latchEdge_eq]
@[simp] theorem latchEdge_hostData (s t : State) : (latchEdge s t).hostData = t.hostData := by rw [latchEdge_eq]

end Sys2Proof.Machine
end

