-- ==== Sys2Proof/Laws/Ops.lean ====
section
/-! SUPPORT. What each shared operation can do, said once: an equation for every bus transaction, the whole effect of
SetMode, and the fields the routines leave alone. Proofs cite these and do not unfold the operations. -/

namespace Sys2Proof.Machine

/-! ### Bus transactions (R309, R315) -/

/-- Chip.SetOpMode. -/
theorem chipSetOpMode_eq (m : Mode) (s : State) :
    chipSetOpMode m s = { s with
      ie := !s.inIsr
      chipMode := m
      chip := { s.chip with opMode := m, packetSent := s.chip.packetSent && !(s.chipMode == .tx && m != .tx) }
      busTrace := .setOpMode m :: s.busTrace } := rfl

/-- Chip.SetHighPower. -/
theorem chipSetHighPower_eq (b : Bool) (s : State) :
    chipSetHighPower b s = { s with ie := !s.inIsr, hpOn := b, busTrace := .setHighPower b :: s.busTrace } := rfl

/-- Chip.ReadModeReady. -/
theorem chipReadModeReady_eq (s : State) :
    chipReadModeReady s = { s with
      ie := !s.inIsr
      answers := { s.answers with modeReady := s.answers.modeReady.tail }
      draws := s.draws + 1
      busTrace := .readModeReady (modeReadyAnswer s) :: s.busTrace } := rfl

/-- Chip.SetDio0Map. -/
theorem chipSetDio0Map_eq (v : Bool) (s : State) :
    chipSetDio0Map v s = { s with ie := !s.inIsr, dio0Map := v, busTrace := .setDio0Map v :: s.busTrace } := rfl

/-- Chip.ReadPayloadReady. -/
theorem chipReadPayloadReady_eq (s : State) :
    chipReadPayloadReady s = { s with ie := !s.inIsr, busTrace := .readPayloadReady s.chip.payloadReady :: s.busTrace } := rfl

/-- Chip.ReadPacketSent. -/
theorem chipReadPacketSent_eq (s : State) :
    chipReadPacketSent s = { s with ie := !s.inIsr, busTrace := .readPacketSent s.chip.packetSent :: s.busTrace } := rfl

/-- Chip.RxRestart. -/
theorem chipRxRestart_eq (s : State) :
    chipRxRestart s = { s with ie := !s.inIsr, chip := { s.chip with payloadReady := false, rxFifo := [] }, busTrace := .rxRestart :: s.busTrace } := rfl

/-- Chip.ReadRssi. -/
theorem chipReadRssi_eq (s : State) :
    chipReadRssi s = { s with
      ie := !s.inIsr
      answers := { s.answers with rssi := s.answers.rssi.tail }
      draws := s.draws + 1
      busTrace := .readRssi (rssiAnswer s) :: s.busTrace } := rfl

/-- Chip.SetSyncNetwork. -/
theorem chipSetSyncNetwork_eq (id : Byte) (s : State) :
    chipSetSyncNetwork id s = { s with ie := !s.inIsr, chip := { s.chip with netId := id }, busTrace := .setSyncNetwork id :: s.busTrace } := rfl

/-- Chip.SetPaLevel. -/
theorem chipSetPaLevel_eq (v : Nat) (s : State) :
    chipSetPaLevel v s = { s with ie := !s.inIsr, chip := { s.chip with paSetting := v }, busTrace := .setPaLevel v :: s.busTrace } := rfl

/-- Chip.SetFrequency. -/
theorem chipSetFrequency_eq (hz : Word) (s : State) :
    chipSetFrequency hz s = { s with ie := !s.inIsr, chip := { s.chip with carrier := hz }, busTrace := .setFrequency hz :: s.busTrace } := rfl

/-- Chip.ReadFrequency. -/
theorem chipReadFrequency_eq (s : State) :
    chipReadFrequency s = { s with
      ie := !s.inIsr
      answers := { s.answers with frequency := s.answers.frequency.tail }
      draws := s.draws + 1
      busTrace := .readFrequency (frequencyAnswer s) :: s.busTrace } := rfl

/-- Chip.SetAesKey. -/
theorem chipSetAesKey_eq (k : List Byte) (s : State) :
    chipSetAesKey k s = { s with ie := !s.inIsr, chip := { s.chip with aesKey := some k }, busTrace := .setAesKey k :: s.busTrace } := rfl

/-- Chip.SetAesOff. -/
theorem chipSetAesOff_eq (s : State) :
    chipSetAesOff s = { s with ie := !s.inIsr, chip := { s.chip with aesKey := none }, busTrace := .setAesOff :: s.busTrace } := rfl

/-- The FIFO transaction of WriteFrame (R64). -/
theorem fifoWriteFrame_eq (bytes : List Byte) (s : State) :
    fifoWriteFrame bytes s = { s with
      ie := !s.inIsr
      chip := { s.chip with txFifo := s.chip.txFifo ++ bytes, txFrame := bytes, txLoaded := true }
      busTrace := .fifoWrite bytes :: s.busTrace } := rfl

/-! ### SetMode (R130, R131) -/

/-- ApplyHighPower switches HP_ON on entry to TX and RX of the high-power variant, and does nothing else (R131). -/
theorem applyHighPower_cases (m : Mode) (s : State) :
    (s.params.hpVariant = true ∧ m = .tx ∧ applyHighPower m s = chipSetHighPower true s) ∨
    (s.params.hpVariant = true ∧ m = .rx ∧ applyHighPower m s = chipSetHighPower false s) ∨
    ((s.params.hpVariant = false ∨ (m ≠ .tx ∧ m ≠ .rx)) ∧ applyHighPower m s = s) := by
  unfold applyHighPower
  cases h : s.params.hpVariant <;> cases m <;> simp

/-- The amplifier bit after SetMode's transactions (R131, R133). -/
def hpAfter (m : Mode) (s : State) : Bool :=
  if s.params.hpVariant && m == .tx then true else if s.params.hpVariant && m == .rx then false else s.hpOn

/-- The trace after SetMode's transactions (R133). -/
def traceAfter (m : Mode) (s : State) : List ChipOp :=
  if s.params.hpVariant && m == .tx then .setHighPower true :: .setOpMode m :: s.busTrace
  else if s.params.hpVariant && m == .rx then .setHighPower false :: .setOpMode m :: s.busTrace
  else .setOpMode m :: s.busTrace

/-- All that SetMode's transactions do (R130, R131, R133). -/
theorem setModeBus_eq (m : Mode) (s : State) :
    setModeBus m s =
      { s with
        ie := !s.inIsr
        chipMode := m
        hpOn := hpAfter m s
        chip := { s.chip with opMode := m, packetSent := s.chip.packetSent && !(s.chipMode == .tx && m != .tx) }
        busTrace := traceAfter m s } := by
  unfold setModeBus applyHighPower hpAfter traceAfter
  rw [chipSetOpMode_eq]
  cases h : s.params.hpVariant <;> cases m <;> simp [chipSetHighPower_eq]

/-- SetMode to the current mode does nothing (R136). -/
theorem setModeNow_same {m : Mode} {s : State} (h : s.mode = m) : setModeNow m s = s := by
  simp [setModeNow, h]

/-- SetMode to another mode (R130). -/
theorem setModeNow_other {m : Mode} {s : State} (h : s.mode ≠ m) :
    setModeNow m s = { setModeBus m s with mode := m } := by
  simp [setModeNow, h]

@[simp] theorem setModeNow_mode (m : Mode) (s : State) : (setModeNow m s).mode = m := by
  unfold setModeNow
  split <;> simp_all

/-- SetMode(m) then k, when it does not leave Sleep (R130). -/
theorem setModeThen_awake {m : Mode} {s : State} (r : Resume) (k : State → State)
    (h : s.mode ≠ .sleep ∨ m = .sleep) : setModeThen m r k s = k (setModeNow m s) := by
  unfold setModeThen
  rw [if_neg]
  rintro ⟨h1, h2⟩
  exact h.elim (fun h => h h1) h2

/-- SetMode(m) leaving Sleep waits at its window, MODE still Sleep (R130). -/
theorem setModeThen_asleep {m : Mode} {s : State} (r : Resume) (k : State → State)
    (h : s.mode = .sleep) (hm : m ≠ .sleep) :
    setModeThen m r k s = enterReadyWait (.wake m r) (setModeBus m s) := by
  unfold setModeThen
  rw [if_pos ⟨h, hm⟩]

/-- Either way (R130). -/
theorem setModeThen_cases (m : Mode) (r : Resume) (k : State → State) (s : State) :
    (s.mode = .sleep ∧ m ≠ .sleep ∧ setModeThen m r k s = enterReadyWait (.wake m r) (setModeBus m s)) ∨
    ((s.mode ≠ .sleep ∨ m = .sleep) ∧ setModeThen m r k s = k (setModeNow m s)) := by
  by_cases h : s.mode = .sleep ∧ m ≠ .sleep
  · exact .inl ⟨h.1, h.2, setModeThen_asleep r k h.1 h.2⟩
  · have h' : s.mode ≠ .sleep ∨ m = .sleep := by
      by_cases hm : m = .sleep
      · exact .inr hm
      · exact .inl fun hs => h ⟨hs, hm⟩
    exact .inr ⟨h', setModeThen_awake r k h'⟩

/-- A poll of a mode-ready wait ends the wait or stays (R132). -/
theorem readyPoll_cases (k : State → State) (s : State) :
    ((modeReadyAnswer s = true ∨ modeReadyExpired (chipReadModeReady s) = true) ∧
      readyPoll k s = k (chipReadModeReady s)) ∨
    (modeReadyAnswer s = false ∧ modeReadyExpired (chipReadModeReady s) = false ∧
      readyPoll k s = chipReadModeReady s) := by
  unfold readyPoll
  cases h1 : modeReadyAnswer s <;> cases h2 : modeReadyExpired (chipReadModeReady s) <;> simp [h2]

/-! ### Phase 0 (R302) -/

/-- Phase 0 of a command: the fault of the first failing check, or the first segment (R302). -/
theorem started_cases (i : Instr) (s : State) (k : State → Result) :
    (∃ c, decodeFault i s = some c ∧ started i s k = .next (raiseFault c s)) ∨
    (decodeFault i s = none ∧ started i s k = k s) := by
  unfold started
  cases h : decodeFault i s <;> simp

/-! ### ReceiveBegin and ReceiveDone (R171, R173) -/

/-- All that ReceiveBegin does before its SetMode (R171). -/
theorem rearm_eq (s : State) :
    rearm s =
      { s with
        ie := !s.inIsr
        dio0Map := false
        slot := { resetSlot with payload := s.slot.payload }
        chip := if s.chip.payloadReady then { s.chip with payloadReady := false, rxFifo := [] } else s.chip
        busTrace :=
          if s.chip.payloadReady then .setDio0Map false :: .rxRestart :: .readPayloadReady true :: s.busTrace
          else .setDio0Map false :: .readPayloadReady false :: s.busTrace } := by
  unfold rearm restartIfStale
  cases h : s.chip.payloadReady <;>
    simp [chipSetDio0Map_eq, chipReadPayloadReady_eq, chipRxRestart_eq, h, clearSlot]

/-- ReceiveDone's three branches: Filled, Armed, not in RX (R173). -/
theorem receiveDone_cases (r : Resume) (kTrue kFalse : State → State) (s : State) :
    (s.mode = .rx ∧ s.slot.frameLen ≠ 0 ∧
      receiveDone r kTrue kFalse s = kTrue (setModeNow .standby { s with ie := false })) ∨
    (s.mode = .rx ∧ s.slot.frameLen = 0 ∧ receiveDone r kTrue kFalse s = kFalse { s with ie := true }) ∨
    (s.mode ≠ .rx ∧ receiveDone r kTrue kFalse s = receiveBeginThen r kFalse { s with ie := false }) := by
  unfold receiveDone
  by_cases h : s.mode = .rx
  · by_cases h2 : s.slot.frameLen = 0
    · exact .inr (.inl ⟨h, h2, by rw [if_pos h, if_pos h2]⟩)
    · exact .inl ⟨h, h2, by rw [if_pos h, if_neg h2]⟩
  · exact .inr (.inr ⟨h, by rw [if_neg h]⟩)

/-! ### The fields the operations leave alone -/

@[simp] theorem setModeBus_params (m : Mode) (s : State) : (setModeBus m s).params = s.params := by rw [setModeBus_eq]
@[simp] theorem setModeBus_cmd (m : Mode) (s : State) : (setModeBus m s).cmd = s.cmd := by rw [setModeBus_eq]
@[simp] theorem setModeBus_argLen (m : Mode) (s : State) : (setModeBus m s).argLen = s.argLen := by rw [setModeBus_eq]
@[simp] theorem setModeBus_argPtr (m : Mode) (s : State) : (setModeBus m s).argPtr = s.argPtr := by rw [setModeBus_eq]
@[simp] theorem setModeBus_argTmo (m : Mode) (s : State) : (setModeBus m s).argTmo = s.argTmo := by rw [setModeBus_eq]
@[simp] theorem setModeBus_argFreq (m : Mode) (s : State) : (setModeBus m s).argFreq = s.argFreq := by rw [setModeBus_eq]
@[simp] theorem setModeBus_result (m : Mode) (s : State) : (setModeBus m s).result = s.result := by rw [setModeBus_eq]
@[simp] theorem setModeBus_faultInfo (m : Mode) (s : State) : (setModeBus m s).faultInfo = s.faultInfo := by rw [setModeBus_eq]
@[simp] theorem setModeBus_busy (m : Mode) (s : State) : (setModeBus m s).busy = s.busy := by rw [setModeBus_eq]
@[simp] theorem setModeBus_initDone (m : Mode) (s : State) : (setModeBus m s).initDone = s.initDone := by rw [setModeBus_eq]
@[simp] theorem setModeBus_faultCode (m : Mode) (s : State) : (setModeBus m s).faultCode = s.faultCode := by rw [setModeBus_eq]
@[simp] theorem setModeBus_ownAddr (m : Mode) (s : State) : (setModeBus m s).ownAddr = s.ownAddr := by rw [setModeBus_eq]
@[simp] theorem setModeBus_netId (m : Mode) (s : State) : (setModeBus m s).netId = s.netId := by rw [setModeBus_eq]
@[simp] theorem setModeBus_promisc (m : Mode) (s : State) : (setModeBus m s).promisc = s.promisc := by rw [setModeBus_eq]
@[simp] theorem setModeBus_mode (m : Mode) (s : State) : (setModeBus m s).mode = s.mode := by rw [setModeBus_eq]
@[simp] theorem setModeBus_dio0Map (m : Mode) (s : State) : (setModeBus m s).dio0Map = s.dio0Map := by rw [setModeBus_eq]
@[simp] theorem setModeBus_slot (m : Mode) (s : State) : (setModeBus m s).slot = s.slot := by rw [setModeBus_eq]
@[simp] theorem setModeBus_inIsr (m : Mode) (s : State) : (setModeBus m s).inIsr = s.inIsr := by rw [setModeBus_eq]
@[simp] theorem setModeBus_irqPending (m : Mode) (s : State) : (setModeBus m s).irqPending = s.irqPending := by rw [setModeBus_eq]
@[simp] theorem setModeBus_curCmd (m : Mode) (s : State) : (setModeBus m s).curCmd = s.curCmd := by rw [setModeBus_eq]
@[simp] theorem setModeBus_phase (m : Mode) (s : State) : (setModeBus m s).phase = s.phase := by rw [setModeBus_eq]
@[simp] theorem setModeBus_work (m : Mode) (s : State) : (setModeBus m s).work = s.work := by rw [setModeBus_eq]
@[simp] theorem setModeBus_clock (m : Mode) (s : State) : (setModeBus m s).clock = s.clock := by rw [setModeBus_eq]
@[simp] theorem setModeBus_hostMem (m : Mode) (s : State) : (setModeBus m s).hostMem = s.hostMem := by rw [setModeBus_eq]
@[simp] theorem setModeBus_answers (m : Mode) (s : State) : (setModeBus m s).answers = s.answers := by rw [setModeBus_eq]
@[simp] theorem setModeBus_draws (m : Mode) (s : State) : (setModeBus m s).draws = s.draws := by rw [setModeBus_eq]
@[simp] theorem setModeBus_inputs (m : Mode) (s : State) : (setModeBus m s).inputs = s.inputs := by rw [setModeBus_eq]
@[simp] theorem setModeBus_hostData (m : Mode) (s : State) : (setModeBus m s).hostData = s.hostData := by rw [setModeBus_eq]
@[simp] theorem setModeBus_chipMode (m : Mode) (s : State) : (setModeBus m s).chipMode = m := by rw [setModeBus_eq]
@[simp] theorem setModeBus_ie (m : Mode) (s : State) : (setModeBus m s).ie = !s.inIsr := by rw [setModeBus_eq]
@[simp] theorem setModeBus_hpOn (m : Mode) (s : State) : (setModeBus m s).hpOn = hpAfter m s := by rw [setModeBus_eq]

@[simp] theorem setModeNow_params (m : Mode) (s : State) : (setModeNow m s).params = s.params := by
  unfold setModeNow; split <;> simp
@[simp] theorem setModeNow_cmd (m : Mode) (s : State) : (setModeNow m s).cmd = s.cmd := by
  unfold setModeNow; split <;> simp
@[simp] theorem setModeNow_argLen (m : Mode) (s : State) : (setModeNow m s).argLen = s.argLen := by
  unfold setModeNow; split <;> simp
@[simp] theorem setModeNow_argPtr (m : Mode) (s : State) : (setModeNow m s).argPtr = s.argPtr := by
  unfold setModeNow; split <;> simp
@[simp] theorem setModeNow_argTmo (m : Mode) (s : State) : (setModeNow m s).argTmo = s.argTmo := by
  unfold setModeNow; split <;> simp
@[simp] theorem setModeNow_argFreq (m : Mode) (s : State) : (setModeNow m s).argFreq = s.argFreq := by
  unfold setModeNow; split <;> simp
@[simp] theorem setModeNow_result (m : Mode) (s : State) : (setModeNow m s).result = s.result := by
  unfold setModeNow; split <;> simp
@[simp] theorem setModeNow_faultInfo (m : Mode) (s : State) : (setModeNow m s).faultInfo = s.faultInfo := by
  unfold setModeNow; split <;> simp
@[simp] theorem setModeNow_busy (m : Mode) (s : State) : (setModeNow m s).busy = s.busy := by
  unfold setModeNow; split <;> simp
@[simp] theorem setModeNow_initDone (m : Mode) (s : State) : (setModeNow m s).initDone = s.initDone := by
  unfold setModeNow; split <;> simp
@[simp] theorem setModeNow_faultCode (m : Mode) (s : State) : (setModeNow m s).faultCode = s.faultCode := by
  unfold setModeNow; split <;> simp
@[simp] theorem setModeNow_ownAddr (m : Mode) (s : State) : (setModeNow m s).ownAddr = s.ownAddr := by
  unfold setModeNow; split <;> simp
@[simp] theorem setModeNow_netId (m : Mode) (s : State) : (setModeNow m s).netId = s.netId := by
  unfold setModeNow; split <;> simp
@[simp] theorem setModeNow_promisc (m : Mode) (s : State) : (setModeNow m s).promisc = s.promisc := by
  unfold setModeNow; split <;> simp
@[simp] theorem setModeNow_dio0Map (m : Mode) (s : State) : (setModeNow m s).dio0Map = s.dio0Map := by
  unfold setModeNow; split <;> simp
@[simp] theorem setModeNow_slot (m : Mode) (s : State) : (setModeNow m s).slot = s.slot := by
  unfold setModeNow; split <;> simp
@[simp] theorem setModeNow_inIsr (m : Mode) (s : State) : (setModeNow m s).inIsr = s.inIsr := by
  unfold setModeNow; split <;> simp
@[simp] theorem setModeNow_irqPending (m : Mode) (s : State) : (setModeNow m s).irqPending = s.irqPending := by
  unfold setModeNow; split <;> simp
@[simp] theorem setModeNow_curCmd (m : Mode) (s : State) : (setModeNow m s).curCmd = s.curCmd := by
  unfold setModeNow; split <;> simp
@[simp] theorem setModeNow_phase (m : Mode) (s : State) : (setModeNow m s).phase = s.phase := by
  unfold setModeNow; split <;> simp
@[simp] theorem setModeNow_work (m : Mode) (s : State) : (setModeNow m s).work = s.work := by
  unfold setModeNow; split <;> simp
@[simp] theorem setModeNow_clock (m : Mode) (s : State) : (setModeNow m s).clock = s.clock := by
  unfold setModeNow; split <;> simp
@[simp] theorem setModeNow_hostMem (m : Mode) (s : State) : (setModeNow m s).hostMem = s.hostMem := by
  unfold setModeNow; split <;> simp
@[simp] theorem setModeNow_answers (m : Mode) (s : State) : (setModeNow m s).answers = s.answers := by
  unfold setModeNow; split <;> simp
@[simp] theorem setModeNow_draws (m : Mode) (s : State) : (setModeNow m s).draws = s.draws := by
  unfold setModeNow; split <;> simp
@[simp] theorem setModeNow_inputs (m : Mode) (s : State) : (setModeNow m s).inputs = s.inputs := by
  unfold setModeNow; split <;> simp
@[simp] theorem setModeNow_hostData (m : Mode) (s : State) : (setModeNow m s).hostData = s.hostData := by
  unfold setModeNow; split <;> simp

@[simp] theorem rearm_params (s : State) : (rearm s).params = s.params := by rw [rearm_eq]
@[simp] theorem rearm_cmd (s : State) : (rearm s).cmd = s.cmd := by rw [rearm_eq]
@[simp] theorem rearm_argLen (s : State) : (rearm s).argLen = s.argLen := by rw [rearm_eq]
@[simp] theorem rearm_argPtr (s : State) : (rearm s).argPtr = s.argPtr := by rw [rearm_eq]
@[simp] theorem rearm_argTmo (s : State) : (rearm s).argTmo = s.argTmo := by rw [rearm_eq]
@[simp] theorem rearm_argFreq (s : State) : (rearm s).argFreq = s.argFreq := by rw [rearm_eq]
@[simp] theorem rearm_result (s : State) : (rearm s).result = s.result := by rw [rearm_eq]
@[simp] theorem rearm_faultInfo (s : State) : (rearm s).faultInfo = s.faultInfo := by rw [rearm_eq]
@[simp] theorem rearm_busy (s : State) : (rearm s).busy = s.busy := by rw [rearm_eq]
@[simp] theorem rearm_initDone (s : State) : (rearm s).initDone = s.initDone := by rw [rearm_eq]
@[simp] theorem rearm_faultCode (s : State) : (rearm s).faultCode = s.faultCode := by rw [rearm_eq]
@[simp] theorem rearm_ownAddr (s : State) : (rearm s).ownAddr = s.ownAddr := by rw [rearm_eq]
@[simp] theorem rearm_netId (s : State) : (rearm s).netId = s.netId := by rw [rearm_eq]
@[simp] theorem rearm_promisc (s : State) : (rearm s).promisc = s.promisc := by rw [rearm_eq]
@[simp] theorem rearm_mode (s : State) : (rearm s).mode = s.mode := by rw [rearm_eq]
@[simp] theorem rearm_hpOn (s : State) : (rearm s).hpOn = s.hpOn := by rw [rearm_eq]
@[simp] theorem rearm_chipMode (s : State) : (rearm s).chipMode = s.chipMode := by rw [rearm_eq]
@[simp] theorem rearm_inIsr (s : State) : (rearm s).inIsr = s.inIsr := by rw [rearm_eq]
@[simp] theorem rearm_irqPending (s : State) : (rearm s).irqPending = s.irqPending := by rw [rearm_eq]
@[simp] theorem rearm_curCmd (s : State) : (rearm s).curCmd = s.curCmd := by rw [rearm_eq]
@[simp] theorem rearm_phase (s : State) : (rearm s).phase = s.phase := by rw [rearm_eq]
@[simp] theorem rearm_work (s : State) : (rearm s).work = s.work := by rw [rearm_eq]
@[simp] theorem rearm_clock (s : State) : (rearm s).clock = s.clock := by rw [rearm_eq]
@[simp] theorem rearm_hostMem (s : State) : (rearm s).hostMem = s.hostMem := by rw [rearm_eq]
@[simp] theorem rearm_answers (s : State) : (rearm s).answers = s.answers := by rw [rearm_eq]
@[simp] theorem rearm_draws (s : State) : (rearm s).draws = s.draws := by rw [rearm_eq]
@[simp] theorem rearm_inputs (s : State) : (rearm s).inputs = s.inputs := by rw [rearm_eq]
@[simp] theorem rearm_hostData (s : State) : (rearm s).hostData = s.hostData := by rw [rearm_eq]
@[simp] theorem rearm_ie (s : State) : (rearm s).ie = !s.inIsr := by rw [rearm_eq]
@[simp] theorem rearm_dio0Map (s : State) : (rearm s).dio0Map = false := by rw [rearm_eq]
@[simp] theorem rearm_slot (s : State) :
    (rearm s).slot = { resetSlot with payload := s.slot.payload } := by rw [rearm_eq]

@[simp] theorem setModeBus_chip_payloadReady (m : Mode) (s : State) :
    (setModeBus m s).chip.payloadReady = s.chip.payloadReady := by rw [setModeBus_eq]
@[simp] theorem setModeNow_chip_payloadReady (m : Mode) (s : State) :
    (setModeNow m s).chip.payloadReady = s.chip.payloadReady := by
  unfold setModeNow; split <;> simp
@[simp] theorem setModeBus_chip_txLoaded (m : Mode) (s : State) :
    (setModeBus m s).chip.txLoaded = s.chip.txLoaded := by rw [setModeBus_eq]
@[simp] theorem setModeNow_chip_txLoaded (m : Mode) (s : State) :
    (setModeNow m s).chip.txLoaded = s.chip.txLoaded := by
  unfold setModeNow; split <;> simp
@[simp] theorem setModeBus_chip_netId (m : Mode) (s : State) :
    (setModeBus m s).chip.netId = s.chip.netId := by rw [setModeBus_eq]
@[simp] theorem setModeNow_chip_netId (m : Mode) (s : State) :
    (setModeNow m s).chip.netId = s.chip.netId := by
  unfold setModeNow; split <;> simp
@[simp] theorem setModeBus_chip_rxFifo (m : Mode) (s : State) :
    (setModeBus m s).chip.rxFifo = s.chip.rxFifo := by rw [setModeBus_eq]
@[simp] theorem setModeNow_chip_rxFifo (m : Mode) (s : State) :
    (setModeNow m s).chip.rxFifo = s.chip.rxFifo := by
  unfold setModeNow; split <;> simp
@[simp] theorem setModeBus_chip_txFifo (m : Mode) (s : State) :
    (setModeBus m s).chip.txFifo = s.chip.txFifo := by rw [setModeBus_eq]
@[simp] theorem setModeNow_chip_txFifo (m : Mode) (s : State) :
    (setModeNow m s).chip.txFifo = s.chip.txFifo := by
  unfold setModeNow; split <;> simp
@[simp] theorem setModeBus_chip_txFrame (m : Mode) (s : State) :
    (setModeBus m s).chip.txFrame = s.chip.txFrame := by rw [setModeBus_eq]
@[simp] theorem setModeNow_chip_txFrame (m : Mode) (s : State) :
    (setModeNow m s).chip.txFrame = s.chip.txFrame := by
  unfold setModeNow; split <;> simp
@[simp] theorem setModeBus_chip_air (m : Mode) (s : State) :
    (setModeBus m s).chip.air = s.chip.air := by rw [setModeBus_eq]
@[simp] theorem setModeNow_chip_air (m : Mode) (s : State) :
    (setModeNow m s).chip.air = s.chip.air := by
  unfold setModeNow; split <;> simp
@[simp] theorem setModeBus_chip_paSetting (m : Mode) (s : State) :
    (setModeBus m s).chip.paSetting = s.chip.paSetting := by rw [setModeBus_eq]
@[simp] theorem setModeNow_chip_paSetting (m : Mode) (s : State) :
    (setModeNow m s).chip.paSetting = s.chip.paSetting := by
  unfold setModeNow; split <;> simp
@[simp] theorem setModeBus_chip_carrier (m : Mode) (s : State) :
    (setModeBus m s).chip.carrier = s.chip.carrier := by rw [setModeBus_eq]
@[simp] theorem setModeNow_chip_carrier (m : Mode) (s : State) :
    (setModeNow m s).chip.carrier = s.chip.carrier := by
  unfold setModeNow; split <;> simp
@[simp] theorem setModeBus_chip_aesKey (m : Mode) (s : State) :
    (setModeBus m s).chip.aesKey = s.chip.aesKey := by rw [setModeBus_eq]
@[simp] theorem setModeNow_chip_aesKey (m : Mode) (s : State) :
    (setModeNow m s).chip.aesKey = s.chip.aesKey := by
  unfold setModeNow; split <;> simp
@[simp] theorem rearm_chip_opMode (s : State) : (rearm s).chip.opMode = s.chip.opMode := by
  rw [rearm_eq]; dsimp only; split <;> rfl
@[simp] theorem rearm_chip_packetSent (s : State) : (rearm s).chip.packetSent = s.chip.packetSent := by
  rw [rearm_eq]; dsimp only; split <;> rfl
@[simp] theorem rearm_chip_txLoaded (s : State) : (rearm s).chip.txLoaded = s.chip.txLoaded := by
  rw [rearm_eq]; dsimp only; split <;> rfl
@[simp] theorem rearm_chip_netId (s : State) : (rearm s).chip.netId = s.chip.netId := by
  rw [rearm_eq]; dsimp only; split <;> rfl
@[simp] theorem rearm_chip_txFifo (s : State) : (rearm s).chip.txFifo = s.chip.txFifo := by
  rw [rearm_eq]; dsimp only; split <;> rfl
@[simp] theorem rearm_chip_txFrame (s : State) : (rearm s).chip.txFrame = s.chip.txFrame := by
  rw [rearm_eq]; dsimp only; split <;> rfl
@[simp] theorem rearm_chip_air (s : State) : (rearm s).chip.air = s.chip.air := by
  rw [rearm_eq]; dsimp only; split <;> rfl
@[simp] theorem rearm_chip_paSetting (s : State) : (rearm s).chip.paSetting = s.chip.paSetting := by
  rw [rearm_eq]; dsimp only; split <;> rfl
@[simp] theorem rearm_chip_carrier (s : State) : (rearm s).chip.carrier = s.chip.carrier := by
  rw [rearm_eq]; dsimp only; split <;> rfl
@[simp] theorem rearm_chip_aesKey (s : State) : (rearm s).chip.aesKey = s.chip.aesKey := by
  rw [rearm_eq]; dsimp only; split <;> rfl
@[simp] theorem rearm_chip_payloadReady (s : State) : (rearm s).chip.payloadReady = false := by
  rw [rearm_eq]; dsimp only; split <;> simp_all

/-! ### The fields SetMode writes (R130) -/

/-- IE after a SetMode without a wait: its BusEnds set it outside the handler. -/
theorem setModeNow_ie (m : Mode) (s : State) :
    (setModeNow m s).ie = if s.mode = m then s.ie else !s.inIsr := by
  unfold setModeNow; split <;> simp
/-- CHIP_MODE after a SetMode without a wait. -/
theorem setModeNow_chipMode (m : Mode) (s : State) :
    (setModeNow m s).chipMode = if s.mode = m then s.chipMode else m := by
  unfold setModeNow; split <;> simp
/-- HP_ON after a SetMode without a wait. -/
theorem setModeNow_hpOn (m : Mode) (s : State) :
    (setModeNow m s).hpOn = if s.mode = m then s.hpOn else hpAfter m s := by
  unfold setModeNow; split <;> simp
/-- The chip's mode after a SetMode without a wait. -/
theorem setModeNow_chip_opMode (m : Mode) (s : State) :
    (setModeNow m s).chip.opMode = if s.mode = m then s.chip.opMode else m := by
  unfold setModeNow; split
  · rfl
  · rw [setModeBus_eq]
/-- chip.packetSent after a SetMode without a wait: cleared on leaving TX. -/
theorem setModeNow_chip_packetSent (m : Mode) (s : State) :
    (setModeNow m s).chip.packetSent =
      if s.mode = m then s.chip.packetSent else s.chip.packetSent && !(s.chipMode == .tx && m != .tx) := by
  unfold setModeNow; split
  · rfl
  · rw [setModeBus_eq]

end Sys2Proof.Machine
end

