-- ==== Sys2Proof/Laws/PerInstr.lean ====
section
/-! SUPPORT. The family EncodingMatchesRow, one lemma per constructor: the encoding of an instruction has the shape of its
row of spec/opcode_table.json (30_encoding.md R97, R102, R107). -/

namespace Sys2Proof.Laws

/-- Masking works field by field (R100). -/
theorem cmdWord_and (o a b f o' a' b' f' : Byte) :
    cmdWord o a b f &&& cmdWord o' a' b' f' = cmdWord (o &&& o') (a &&& a') (b &&& b') (f &&& f') := by
  unfold cmdWord
  rw [BitVec.and_append, BitVec.and_append, BitVec.and_append]

/-- OPC of a built word (R100). -/
theorem opcField_cmdWord (o a b f : Byte) : opcField (cmdWord o a b f) = o := by
  unfold opcField cmdWord
  ext j hj
  simp only [BitVec.getElem_extractLsb', BitVec.getLsbD_append]
  have h1 : ¬(24 + j < 8) := by omega
  have h2 : ¬(24 + j - 8 < 8) := by omega
  have h3 : ¬(24 + j - 8 - 8 < 8) := by omega
  simp only [h1, h2, h3, if_false]
  rw [show 24 + j - 8 - 8 - 8 = j by omega, BitVec.getLsbD_eq_getElem hj]

/-- The flags of F, one bit each (R100). -/
theorem flagBit_mask (b : Bool) :
    flagBit 0 b &&& 0xFE = 0 ∧ flagBit 2 b &&& 0xFB = 0 ∧ flagBit 3 b &&& 0xF7 = 0 := by
  cases b <;> decide

/-- The two flags of WRITE_FRAME (R152). -/
theorem flagBits_mask (a b : Bool) : (flagBit 0 a ||| flagBit 1 b) &&& 0xFC = 0 := by
  cases a <;> cases b <;> decide

/-- A field the row leaves free is masked away. -/
theorem and_unused (a : Byte) : a &&& 0 = 0 := BitVec.and_zero

/-- The class bits of a built control byte (R97). -/
theorem class_bits (c : BitVec 2) (low : BitVec 6) : (c ++ low : BitVec 8) &&& 0xC0 = (c ++ (0 : BitVec 6) : BitVec 8) := by
  have h : (0xC0 : BitVec 8) = (3#2 ++ 0#6 : BitVec 8) := by decide
  rw [h]
  have := BitVec.and_append (x₁ := c) (x₂ := 3#2) (y₁ := low) (y₂ := 0#6)
  refine this.trans ?_
  have hc : ∀ c : BitVec 2, c &&& 3#2 = c := by decide
  rw [hc, BitVec.and_zero]; rfl

/-- Whether an encoding has the shape of its instruction's table row: a command word its row's OPC and masked match, a
frame image its class in the control byte at index 3, the capture no word. -/
def rowShape (mnemonic : String) (ctlClassBits : Byte) : Encoding → Prop
  | .command w => ∃ r ∈ opcodeTable, r.mnemonic = mnemonic ∧ opcField w = r.opc ∧ w &&& r.mask = r.value
  | .frame bytes => ∃ ctl, bytes[3]? = some ctl ∧ ctl &&& 0xC0 = ctlClassBits
  | .event => mnemonic = "CAPTURE"

/-- The mnemonic of an instruction's table row. -/
def mnemonic : Instr → String
  | .init _ _ => "INIT"
  | .setNetwork _ => "SET_NETWORK"
  | .setPromiscuous _ => "SET_PROMISCUOUS"
  | .setPowerLevel _ => "SET_POWER_LEVEL"
  | .setFrequency => "SET_FREQUENCY"
  | .getFrequency => "GET_FREQUENCY"
  | .setEncryptionKey _ => "SET_ENCRYPTION_KEY"
  | .sleep => "SLEEP"
  | .send _ _ => "SEND"
  | .sendWithRetry _ _ => "SEND_WITH_RETRY"
  | .sendAck => "SEND_ACK"
  | .ackReceived _ => "ACK_RECEIVED"
  | .ackRequested => "ACK_REQUESTED"
  | .pollReceived => "POLL_RECEIVED"
  | .setMode _ => "SET_MODE"
  | .receiveBegin => "RECEIVE_BEGIN"
  | .canSend => "CAN_SEND"
  | .awaitClearChannel => "AWAIT_CLEAR_CHANNEL"
  | .writeFrame _ _ _ => "WRITE_FRAME"
  | .getSender => "GET_SENDER"
  | .getTarget => "GET_TARGET"
  | .getLength => "GET_LENGTH"
  | .getRssi => "GET_RSSI"
  | .getPayloadByte _ => "GET_PAYLOAD_BYTE"
  | .getAckFlags => "GET_ACK_FLAGS"
  | .capture => "CAPTURE"
  | .frameData _ => "FRAME_DATA"
  | .frameDataReqack _ => "FRAME_DATA_REQACK"
  | .frameAck _ => "FRAME_ACK"
  | .frameAckReqack _ => "FRAME_ACK_REQACK"

/-- The match of a frame instruction's table row, its bits under the mask 0xC0; 0 for the others. -/
def classBits : Instr → Byte
  | .init _ _ | .setNetwork _ | .setPromiscuous _ | .setPowerLevel _ | .setFrequency | .getFrequency | .setEncryptionKey _
  | .sleep | .send _ _ | .sendWithRetry _ _ | .sendAck | .ackReceived _ | .ackRequested | .pollReceived | .setMode _
  | .receiveBegin | .canSend | .awaitClearChannel | .writeFrame _ _ _ | .getSender | .getTarget | .getLength | .getRssi
  | .getPayloadByte _ | .getAckFlags | .capture => 0
  | .frameData _ => 0x00
  | .frameDataReqack _ => 0x40
  | .frameAck _ => 0x80
  | .frameAckReqack _ => 0xC0

/-- An instruction's encoding has the shape of its table row. -/
def EncodingMatchesRow.Statement (i : Instr) : Prop := rowShape (mnemonic i) (classBits i) (encode i)

theorem EncodingMatchesRow.init (a n : Byte) :
    EncodingMatchesRow.Statement (.init a n) := by
  refine ⟨_, List.getElem_mem (n := 0) (by decide), rfl, opcField_cmdWord _ _ _ _, ?_⟩
  refine (cmdWord_and 0x1 a n 0 0xFF 0 0 0xFF).trans ?_
  simp only [and_unused]
  decide

theorem EncodingMatchesRow.setNetwork (n : Byte) :
    EncodingMatchesRow.Statement (.setNetwork n) := by
  refine ⟨_, List.getElem_mem (n := 1) (by decide), rfl, opcField_cmdWord _ _ _ _, ?_⟩
  refine (cmdWord_and 0x2 0 n 0 0xFF 0xFF 0 0xFF).trans ?_
  simp only [and_unused]
  decide

theorem EncodingMatchesRow.setPromiscuous (on : Bool) :
    EncodingMatchesRow.Statement (.setPromiscuous on) := by
  refine ⟨_, List.getElem_mem (n := 2) (by decide), rfl, opcField_cmdWord _ _ _ _, ?_⟩
  refine (cmdWord_and 0x3 0 0 (flagBit 2 on) 0xFF 0xFF 0xFF 0xFB).trans ?_
  simp only [flagBit_mask]
  decide

theorem EncodingMatchesRow.setPowerLevel (p : Byte) :
    EncodingMatchesRow.Statement (.setPowerLevel p) := by
  refine ⟨_, List.getElem_mem (n := 3) (by decide), rfl, opcField_cmdWord _ _ _ _, ?_⟩
  refine (cmdWord_and 0x4 p 0 0 0xFF 0 0xFF 0xFF).trans ?_
  simp only [and_unused]
  decide

theorem EncodingMatchesRow.setFrequency :
    EncodingMatchesRow.Statement .setFrequency := by
  refine ⟨_, List.getElem_mem (n := 4) (by decide), rfl, rfl, ?_⟩
  decide

theorem EncodingMatchesRow.getFrequency :
    EncodingMatchesRow.Statement .getFrequency := by
  refine ⟨_, List.getElem_mem (n := 5) (by decide), rfl, rfl, ?_⟩
  decide

theorem EncodingMatchesRow.setEncryptionKey (k : Bool) :
    EncodingMatchesRow.Statement (.setEncryptionKey k) := by
  refine ⟨_, List.getElem_mem (n := 6) (by decide), rfl, opcField_cmdWord _ _ _ _, ?_⟩
  refine (cmdWord_and 0x7 0 0 (flagBit 3 k) 0xFF 0xFF 0xFF 0xF7).trans ?_
  simp only [flagBit_mask]
  decide

theorem EncodingMatchesRow.sleep :
    EncodingMatchesRow.Statement .sleep := by
  refine ⟨_, List.getElem_mem (n := 7) (by decide), rfl, rfl, ?_⟩
  decide

theorem EncodingMatchesRow.send (t : Byte) (rq : Bool) :
    EncodingMatchesRow.Statement (.send t rq) := by
  refine ⟨_, List.getElem_mem (n := 8) (by decide), rfl, opcField_cmdWord _ _ _ _, ?_⟩
  refine (cmdWord_and 0x10 t 0 (flagBit 0 rq) 0xFF 0 0xFF 0xFE).trans ?_
  simp only [and_unused, flagBit_mask]
  decide

theorem EncodingMatchesRow.sendWithRetry (t r : Byte) :
    EncodingMatchesRow.Statement (.sendWithRetry t r) := by
  refine ⟨_, List.getElem_mem (n := 9) (by decide), rfl, opcField_cmdWord _ _ _ _, ?_⟩
  refine (cmdWord_and 0x11 t r 0 0xFF 0 0 0xFF).trans ?_
  simp only [and_unused]
  decide

theorem EncodingMatchesRow.sendAck :
    EncodingMatchesRow.Statement .sendAck := by
  refine ⟨_, List.getElem_mem (n := 10) (by decide), rfl, rfl, ?_⟩
  decide

theorem EncodingMatchesRow.ackReceived (f : Byte) :
    EncodingMatchesRow.Statement (.ackReceived f) := by
  refine ⟨_, List.getElem_mem (n := 11) (by decide), rfl, opcField_cmdWord _ _ _ _, ?_⟩
  refine (cmdWord_and 0x13 f 0 0 0xFF 0 0xFF 0xFF).trans ?_
  simp only [and_unused]
  decide

theorem EncodingMatchesRow.ackRequested :
    EncodingMatchesRow.Statement .ackRequested := by
  refine ⟨_, List.getElem_mem (n := 12) (by decide), rfl, rfl, ?_⟩
  decide

theorem EncodingMatchesRow.pollReceived :
    EncodingMatchesRow.Statement .pollReceived := by
  refine ⟨_, List.getElem_mem (n := 13) (by decide), rfl, rfl, ?_⟩
  decide

theorem EncodingMatchesRow.setMode (m : Byte) :
    EncodingMatchesRow.Statement (.setMode m) := by
  refine ⟨_, List.getElem_mem (n := 14) (by decide), rfl, opcField_cmdWord _ _ _ _, ?_⟩
  refine (cmdWord_and 0x20 m 0 0 0xFF 0 0xFF 0xFF).trans ?_
  simp only [and_unused]
  decide

theorem EncodingMatchesRow.receiveBegin :
    EncodingMatchesRow.Statement .receiveBegin := by
  refine ⟨_, List.getElem_mem (n := 15) (by decide), rfl, rfl, ?_⟩
  decide

theorem EncodingMatchesRow.canSend :
    EncodingMatchesRow.Statement .canSend := by
  refine ⟨_, List.getElem_mem (n := 16) (by decide), rfl, rfl, ?_⟩
  decide

theorem EncodingMatchesRow.awaitClearChannel :
    EncodingMatchesRow.Statement .awaitClearChannel := by
  refine ⟨_, List.getElem_mem (n := 17) (by decide), rfl, rfl, ?_⟩
  decide

theorem EncodingMatchesRow.writeFrame (t : Byte) (rq ar : Bool) :
    EncodingMatchesRow.Statement (.writeFrame t rq ar) := by
  refine ⟨_, List.getElem_mem (n := 18) (by decide), rfl, opcField_cmdWord _ _ _ _, ?_⟩
  refine (cmdWord_and 0x24 t 0 (flagBit 0 rq ||| flagBit 1 ar) 0xFF 0 0xFF 0xFC).trans ?_
  simp only [and_unused, flagBits_mask]
  decide

theorem EncodingMatchesRow.getSender :
    EncodingMatchesRow.Statement .getSender := by
  refine ⟨_, List.getElem_mem (n := 19) (by decide), rfl, rfl, ?_⟩
  decide

theorem EncodingMatchesRow.getTarget :
    EncodingMatchesRow.Statement .getTarget := by
  refine ⟨_, List.getElem_mem (n := 20) (by decide), rfl, rfl, ?_⟩
  decide

theorem EncodingMatchesRow.getLength :
    EncodingMatchesRow.Statement .getLength := by
  refine ⟨_, List.getElem_mem (n := 21) (by decide), rfl, rfl, ?_⟩
  decide

theorem EncodingMatchesRow.getRssi :
    EncodingMatchesRow.Statement .getRssi := by
  refine ⟨_, List.getElem_mem (n := 22) (by decide), rfl, rfl, ?_⟩
  decide

theorem EncodingMatchesRow.getPayloadByte (i : Byte) :
    EncodingMatchesRow.Statement (.getPayloadByte i) := by
  refine ⟨_, List.getElem_mem (n := 23) (by decide), rfl, opcField_cmdWord _ _ _ _, ?_⟩
  refine (cmdWord_and 0x34 i 0 0 0xFF 0 0xFF 0xFF).trans ?_
  simp only [and_unused]
  decide

theorem EncodingMatchesRow.getAckFlags :
    EncodingMatchesRow.Statement .getAckFlags := by
  refine ⟨_, List.getElem_mem (n := 24) (by decide), rfl, rfl, ?_⟩
  decide

theorem EncodingMatchesRow.capture :
    EncodingMatchesRow.Statement .capture := rfl

theorem EncodingMatchesRow.frameData (f : FrameBody) :
    EncodingMatchesRow.Statement (.frameData f) := ⟨(0#2 ++ f.ctlLow : BitVec 8), rfl, class_bits 0#2 f.ctlLow⟩

theorem EncodingMatchesRow.frameDataReqack (f : FrameBody) :
    EncodingMatchesRow.Statement (.frameDataReqack f) := ⟨(1#2 ++ f.ctlLow : BitVec 8), rfl, class_bits 1#2 f.ctlLow⟩

theorem EncodingMatchesRow.frameAck (f : FrameBody) :
    EncodingMatchesRow.Statement (.frameAck f) := ⟨(2#2 ++ f.ctlLow : BitVec 8), rfl, class_bits 2#2 f.ctlLow⟩

theorem EncodingMatchesRow.frameAckReqack (f : FrameBody) :
    EncodingMatchesRow.Statement (.frameAckReqack f) := ⟨(3#2 ++ f.ctlLow : BitVec 8), rfl, class_bits 3#2 f.ctlLow⟩

end Sys2Proof.Laws
end

