-- ==== Sys2Proof/Laws/Step.lean ====
section
/-! SUPPORT. The inversion of a step: everything that can have happened when a step answers a next state, said once, and
the frame of the edge latch. Proofs about every step start here. -/

namespace Sys2Proof.Machine

/-- The latch over a next state. -/
@[simp] theorem latched_next (s t : State) : latched s (.next t) = .next (latchEdge s t) := rfl

/-- A latched unit answers next exactly when the unit does. -/
theorem latched_eq_next {s t : State} {o : Result} (h : latched s o = .next t) :
    ∃ u, o = .next u ∧ t = latchEdge s u := by
  cases o with
  | next u => exact ⟨u, rfl, by simpa [latched] using h.symm⟩
  | fault r => simp [latched] at h
  | refused r => simp [latched] at h

/-- No edge: DIO0 reads as before. -/
theorem latchEdge_of_dio0_eq {s t : State} (h : dio0 t = dio0 s) : latchEdge s t = t := by
  unfold latchEdge; rw [h]; cases dio0 s <;> simp

/-- A control byte is its class bits above its low bits (R94). -/
theorem ctl_split : ∀ ctl : Byte, (ctlClass ctl ++ ctlLowBits ctl : BitVec 8) = ctl := by decide

/-- The four classes. -/
theorem class_cases : ∀ c : BitVec 2, c = 0 ∨ c = 1 ∨ c = 2 ∨ c = 3 := by decide

/-- A decoded frame image is its instruction's frame arrival (R97, R316). -/
theorem exec_of_decodeFrame {bytes : List Byte} {i : Instr} (h : decodeFrame bytes = .ok i) (s : State) :
    exec i s = frameArrives bytes s := by
  match bytes, h with
  | len :: target :: sender :: ctl :: payload, h =>
    have hc := ctl_split ctl
    simp only [decodeFrame, Except.ok.injEq] at h
    subst h
    rcases class_cases (ctlClass ctl) with hk | hk | hk | hk <;> rw [hk] at hc ⊢ <;>
      exact congrArg (fun c => frameArrives (len :: target :: sender :: c :: payload) s) hc

/-- What a frame move does (R316). -/
theorem frameUnit_eq (net : Byte) (bytes : List Byte) (s : State) :
    frameUnit net bytes s = if net = s.chip.netId then frameArrives bytes s else .next s := by
  unfold frameUnit
  split
  · split
    · next i h => exact exec_of_decodeFrame h s
    · rfl
  · rfl

/-- Everything the engine's own unit can do. -/
theorem engineUnit_cases {s t : State} (h : engineUnit s = .next t) :
    (captureDue s = true ∧ ∃ u, exec .capture s = .next u ∧ t = latchEdge s u) ∨
    (captureDue s = false ∧ s.faultCode = .none ∧ s.busy = true ∧
      ((∃ i u, decodeCommand s.curCmd = .ok i ∧ exec i s = .next u ∧ t = latchEdge s u) ∨
       (∃ e, decodeCommand s.curCmd = .error e ∧ t = latchEdge s (raiseFault .illegalCommand s)))) ∨
    (captureDue s = false ∧ (s.faultCode ≠ .none ∨ s.busy = false) ∧ t = s) := by
  unfold engineUnit at h
  split at h
  · next hc => exact .inl ⟨hc, latched_eq_next h⟩
  · next hc =>
    split at h
    · next hb =>
      refine .inr (.inl ⟨by simpa using hc, hb.1, hb.2, ?_⟩)
      obtain ⟨u, hu, rfl⟩ := latched_eq_next h
      unfold appUnit at hu
      split at hu
      · next i hd => exact .inl ⟨i, u, hd, hu, rfl⟩
      · next e hd =>
        obtain rfl : raiseFault .illegalCommand s = u := by simpa using hu
        exact .inr ⟨e, hd, rfl⟩
    · next hb =>
      refine .inr (.inr ⟨by simpa using hc, ?_, by simpa using h.symm⟩)
      by_cases hf : s.faultCode = .none
      · right; simpa [hf] using hb
      · exact .inl hf

/-- Everything a step can do, when it answers a next state; `u` is the state its own move is taken from. -/
theorem step_cases {s t : State} (h : step s = .next t) :
    (EngineTurn s ∧ engineUnit (afterMove s) = .next t) ∨
    (∃ width offset v r, s.inputs.head? = some (.hostWrite width offset v) ∧ hostReg width offset = some r ∧
      t = latchEdge (afterMove s) (hostWrite r v (afterMove s))) ∨
    (∃ width offset r, s.inputs.head? = some (.hostRead width offset) ∧ hostReg width offset = some r ∧
      t = hostReadUnit r (afterMove s)) ∨
    (∃ a b, s.inputs.head? = some (.hostMemWrite a b) ∧ s.busy = false ∧
      t = { afterMove s with hostMem := memWrite s.hostMem a.toNat b }) ∨
    (s.inputs.head? = some .reset ∧ t = resetEvent (afterMove s)) ∨
    (s.inputs.head? = some .bringUp ∧ t = bringUpEvent (afterMove s)) ∨
    (∃ net bytes, s.inputs.head? = some (.frame net bytes) ∧
      (t = afterMove s ∨ (s.chip.opMode = s.chipMode ∧ s.chipMode = .rx ∧ s.chip.payloadReady = false ∧
        t = latchEdge (afterMove s)
          { afterMove s with chip := { s.chip with payloadReady := true, rxFifo := bytes } }))) ∨
    (s.inputs.head? = some .packetSent ∧
      (t = afterMove s ∨ (s.chip.opMode = s.chipMode ∧ s.chipMode = .tx ∧ s.chip.txLoaded = true ∧
        t = latchEdge (afterMove s)
          { afterMove s with chip := { s.chip with
              air := s.chip.air ++ [s.chip.txFrame], packetSent := true, txLoaded := false } }))) ∨
    (s.inputs.head? = some .tick ∧ t = tickEvent (afterMove s)) := by
  cases hi : s.inputs with
  | nil =>
    simp only [step, hi] at h
    refine .inl ⟨.inl hi, ?_⟩
    have : afterMove s = s := by cases s; simp_all [afterMove]
    rw [this]; exact h
  | cons i rest =>
    simp only [step, hi] at h
    have ha : ({ s with inputs := rest } : State) = afterMove s := by simp [afterMove, hi]
    rw [ha] at h
    cases i with
    | engine => exact .inl ⟨.inr (by simp [hi]), h⟩
    | hostWrite width offset v =>
      simp only [inputUnit] at h
      split at h
      · next r hr =>
        refine .inr (.inl ⟨width, offset, v, r, by simp, hr, ?_⟩)
        simpa using h.symm
      · simp at h
    | hostRead width offset =>
      simp only [inputUnit] at h
      split at h
      · next r hr =>
        refine .inr (.inr (.inl ⟨width, offset, r, by simp, hr, ?_⟩))
        rw [latched_next, latchEdge_of_dio0_eq (by rfl)] at h
        simpa using h.symm
      · simp at h
    | hostMemWrite a b =>
      simp only [inputUnit, hostStore] at h
      split at h
      · simp at h
      · next hb =>
        refine .inr (.inr (.inr (.inl ⟨a, b, by simp, by simpa [afterMove] using hb, ?_⟩)))
        exact (Host.Outcome.next.inj h).symm
    | reset => exact .inr (.inr (.inr (.inr (.inl ⟨by simp, by simpa [inputUnit] using h.symm⟩))))
    | bringUp => exact .inr (.inr (.inr (.inr (.inr (.inl ⟨by simp, by simpa [inputUnit] using h.symm⟩)))))
    | frame net bytes =>
      refine .inr (.inr (.inr (.inr (.inr (.inr (.inl ⟨net, bytes, by simp, ?_⟩))))))
      simp only [inputUnit, frameUnit_eq, frameArrives] at h
      split at h
      · split at h
        · next ho =>
          split at h
          · next hca =>
            simp only [canArrive, Bool.and_eq_true, beq_iff_eq, Bool.not_eq_true'] at hca
            exact .inr ⟨ho, hca.1, hca.2, (Host.Outcome.next.inj h).symm⟩
          · left; rw [latched_next, latchEdge_of_dio0_eq rfl] at h; simpa using h.symm
        · simp [latched] at h
      · left; rw [latched_next, latchEdge_of_dio0_eq rfl] at h; simpa using h.symm
    | packetSent =>
      refine .inr (.inr (.inr (.inr (.inr (.inr (.inr (.inl ⟨by simp, ?_⟩)))))))
      simp only [inputUnit, packetSentEvent] at h
      split at h
      · next ho =>
        split at h
        · next hca =>
          simp only [canComplete, Bool.and_eq_true, beq_iff_eq] at hca
          exact .inr ⟨ho, hca.1, hca.2, (Host.Outcome.next.inj h).symm⟩
        · left; rw [latched_next, latchEdge_of_dio0_eq rfl] at h; simpa using h.symm
      · simp [latched] at h
    | tick =>
      refine .inr (.inr (.inr (.inr (.inr (.inr (.inr (.inr ⟨by simp, ?_⟩)))))))
      simp only [inputUnit, latched_next] at h
      rw [latchEdge_of_dio0_eq (show dio0 (tickEvent (afterMove s)) = dio0 (afterMove s) from rfl)] at h
      exact (Host.Outcome.next.inj h).symm

end Sys2Proof.Machine
end

