-- ==== Sys2Proof/Laws/Routines.lean ====
section
/-! SUPPORT. The routines the commands share, each said once: the decode checks, the frame codec, the capture, the carrier
sense, the transmit sequence, the ACK match, and the moves of HOST and ENV. Proofs cite these. -/

namespace Sys2Proof.Machine

/-! ### Decode (R102, R302) -/

/-- A word that decodes matches a row of the table and is built from its fields (R102, R103). -/
theorem decodeCommand_eq_ok {w : Word} {i : Instr} (h : decodeCommand w = .ok i) :
    ∃ r ∈ opcodeTable, r.opc = opcField w ∧ w &&& r.mask = r.value ∧ i = r.build (aField w) (bField w) (fField w) := by
  unfold decodeCommand at h
  split at h
  · simp at h
  · next r hr =>
    have ho := List.find?_some hr
    split at h
    · next hm =>
      exact ⟨r, List.mem_of_find?_eq_some hr, by simpa using ho, hm, by simpa using h.symm⟩
    · simp at h

/-- Only commands decode from words (R107). -/
theorem isCommand_of_decode {w : Word} {i : Instr} (h : decodeCommand w = .ok i) : isCommand i = true := by
  obtain ⟨r, hr, -, -, rfl⟩ := decodeCommand_eq_ok h
  simp only [opcodeTable, configurationRows, deliveryRows, primitiveRows, accessorRows, List.cons_append,
    List.nil_append, List.mem_cons, List.not_mem_nil, or_false] at hr
  rcases hr with rfl | rfl | rfl | rfl | rfl | rfl | rfl | rfl | rfl | rfl | rfl | rfl | rfl | rfl | rfl | rfl | rfl |
    rfl | rfl | rfl | rfl | rfl | rfl | rfl | rfl <;> rfl

/-- The range check reads the length and pointer registers alone (R63). -/
theorem hostRangeOk_congr {s t : State} (i : Instr) (hl : t.argLen = s.argLen) (hp : t.argPtr = s.argPtr) :
    hostRangeOk i t = hostRangeOk i s := by
  have hb : hostBytes i t = hostBytes i s := by cases i <;> simp only [hostBytes, payloadCount, hl]
  unfold hostRangeOk payloadAddr
  rw [hb, hp]

/-- When every decode check passes (R302). -/
theorem decodeFault_eq_none {i : Instr} {s : State} :
    decodeFault i s = none ↔
      (isInit i = !s.initDone) ∧ operandOk i = true ∧ addressOk i = true ∧ (readsSlot i = true → s.mode ≠ .rx) ∧
        hostRangeOk i s = true := by
  unfold decodeFault
  cases isInit i <;> cases s.initDone <;> cases operandOk i <;> cases addressOk i <;> cases readsSlot i <;>
    cases hostRangeOk i s <;> by_cases hm : s.mode = .rx <;> simp [hm]

/-! ### Waits (R132, R314) -/

/-- The mode-ready bound, as the statements say it. -/
theorem modeReadyExpired_iff (s : State) : modeReadyExpired s = true ↔ ReadyBoundReached s := by
  unfold modeReadyExpired ReadyBoundReached elapsed
  cases s.params.modeReadyTimeout <;> simp

/-- A read of mode ready does not change the bound. -/
theorem modeReadyExpired_read (s : State) : modeReadyExpired (chipReadModeReady s) = modeReadyExpired s := rfl

/-- A poll of SetMode's wake wait ends it, with MODE set, or stays (R130, R132). -/
theorem wakePoll_cases (m : Mode) (k : State → State) (s : State) :
    ((modeReadyAnswer s = true ∨ ReadyBoundReached s) ∧
      wakePoll m k s = k { chipReadModeReady s with mode := m }) ∨
    ((modeReadyAnswer s = false ∧ ¬ReadyBoundReached s) ∧ wakePoll m k s = chipReadModeReady s) := by
  rw [← modeReadyExpired_iff, ← modeReadyExpired_read]
  unfold wakePoll
  rcases readyPoll_cases (fun t => k { t with mode := m }) s with ⟨h, he⟩ | ⟨h1, h2, he⟩
  · exact .inl ⟨h, he⟩
  · exact .inr ⟨⟨h1, by simp [h2]⟩, he⟩

/-! ### Frame codec (R150, R151) -/

/-- WriteFrame: the range fails, or the frame goes to the FIFO in one transaction (R151). -/
theorem writeFrameThen_cases (t : Byte) (rq ar : Bool) (k : State → State) (s : State) :
    (payloadBytes s = none ∧ writeFrameThen t rq ar k s = .fault .noSuchHostAddress) ∨
    (∃ payload, payloadBytes s = some payload ∧
      writeFrameThen t rq ar k s =
        .next (k (fifoWriteFrame (frameBytes t s.ownAddr (buildCtl rq ar) payload)
          { s with work := { s.work with lAcc := BitVec.ofNat 8 (payloadCount s) } }))) := by
  unfold writeFrameThen
  cases payloadBytes s with
  | none => exact .inl ⟨rfl, rfl⟩
  | some p => exact .inr ⟨p, rfl, rfl⟩

/-- A frame of n payload bytes is n + 4 bytes (R91). -/
@[simp] theorem frameBytes_length (t own ctl : Byte) (payload : List Byte) :
    (frameBytes t own ctl payload).length = payload.length + 4 := rfl

/-- The three control bytes WriteFrame builds (R95, R150). -/
theorem buildCtl_cases (rq ar : Bool) :
    buildCtl rq ar = (if ar = true then 0x80#8 else if rq = true then 0x40#8 else 0x00#8) := rfl

/-- The clamp as a number (R177). -/
theorem clampLen_toNat (s : State) (raw : Byte) : (clampLen s raw).toNat = min raw.toNat (rxLenClamp s) := by
  have := raw.isLt
  simp only [clampLen, BitVec.toNat_ofNat]
  omega

/-- The clamp is between 3 and 255 (R5). -/
theorem rxLenClamp_bounds (s : State) : 3 ≤ rxLenClamp s ∧ rxLenClamp s ≤ 255 := by
  have := s.params.rxLenSlack.isLt
  unfold rxLenClamp
  omega

/-! ### The FIFO (R65) -/

/-- A FIFO read inside the received frame gives the frame's byte. -/
theorem fifoByte_of_getElem {s : State} {k : Nat} {b : Byte} (h : s.chip.rxFifo[k]? = some b) : fifoByte s k = b := by
  unfold fifoByte
  rw [List.getD_eq_getElem?_getD, h]
  rfl

@[simp] theorem fifoBytes_length (s : State) (lo n : Nat) : (fifoBytes s lo n).length = n := by simp [fifoBytes]

/-- The i-th byte of a run of FIFO reads. -/
theorem fifoBytes_getElem? (s : State) (lo n i : Nat) (h : i < n) :
    (fifoBytes s lo n)[i]? = some (fifoByte s (lo + i)) := by simp [fifoBytes, h]

/-! ### The capture (R175 to R179) -/

/-- The address and length filter (R176). -/
theorem accepts_iff (s : State) (len tgt : Byte) :
    accepts s len tgt = true ↔ (s.promisc = true ∨ tgt = s.ownAddr ∨ tgt = 255) ∧ 3 ≤ len.toNat := by
  simp [accepts, Config.broadcast, or_assoc]

/-- Every byte of the buffer after StorePayload (R178). -/
theorem storedPayload_getElem (pay : List Byte) (old : Vector Byte 61) (i : Nat) (h : i < 61) :
    (storedPayload pay old)[i] =
      if i < pay.length then pay.getD i 0 else if i = pay.length then 0 else old[i] := by
  simp [storedPayload]

/-- All that the accept path does before its SetMode (R175, R178). -/
theorem captureAccept_eq (len : Byte) (s : State) :
    captureAccept len s = setModeNow .rx
      { s with
        ie := !s.inIsr
        slot :=
          { s.slot with
            frameLen := len
            target := fifoByte s 1
            sender := fifoByte s 2
            ackRcvd := ctlAckRcvd (fifoByte s 3)
            ackReq := ctlAckReq (fifoByte s 3)
            dataLen := BitVec.ofNat 8 (min (len.toNat - 3) Config.rxBufCap)
            payload := storedPayload (fifoBytes s 4 (len.toNat - 3)) s.slot.payload }
        chip := { s.chip with payloadReady := false, rxFifo := [] }
        draws := s.draws + (len.toNat - 3 + 4)
        busTrace := .fifoRead (fifoBytes s 0 (len.toNat - 3 + 4)) :: s.busTrace } := rfl

/-- All that the reject path does before its ReceiveBegin (R175). -/
theorem captureReject_eq (s : State) :
    captureReject s = setModeNow .rx (rearm
      { s with
        ie := !s.inIsr
        slot := { s.slot with target := fifoByte s 1, frameLen := 0 }
        chip := { s.chip with rxFifo := s.chip.rxFifo.drop 2 }
        draws := s.draws + 2
        busTrace := .fifoRead (fifoBytes s 0 2) :: s.busTrace }) := rfl

/-- The filter decides which path a capture takes (R175, R176). -/
theorem captureFrame_cases (s : State) :
    (accepts s (clampLen s (fifoByte s 0)) (fifoByte s 1) = true ∧
      captureFrame s = captureAccept (clampLen s (fifoByte s 0)) (setModeNow .standby s)) ∨
    (accepts s (clampLen s (fifoByte s 0)) (fifoByte s 1) = false ∧
      captureFrame s = captureReject (setModeNow .standby s)) := by
  have h0 : fifoByte (setModeNow .standby s) 0 = fifoByte s 0 := by simp [fifoByte]
  have h1 : fifoByte (setModeNow .standby s) 1 = fifoByte s 1 := by simp [fifoByte]
  have hc : clampLen (setModeNow .standby s) (fifoByte s 0) = clampLen s (fifoByte s 0) := by
    simp [clampLen, rxLenClamp]
  have ha : ∀ l t, accepts (setModeNow .standby s) l t = accepts s l t := by simp [accepts]
  unfold captureFrame
  simp only [h0, h1, hc, ha]
  cases accepts s (clampLen s (fifoByte s 0)) (fifoByte s 1) <;> simp

/-- A capture run: spurious, or the frame and then the RSSI sample (R175, R310). -/
theorem execCapture_cases (s : State) :
    (s.mode = .rx ∧ s.chip.payloadReady = true ∧
      execCapture s = .next (capExit (sampleRssi (captureFrame (chipReadPayloadReady (capEntry s)))))) ∨
    ((s.mode ≠ .rx ∨ s.chip.payloadReady = false) ∧
      execCapture s = .next (capExit (chipReadPayloadReady (capEntry s)))) := by
  unfold execCapture
  by_cases hm : s.mode = .rx <;> cases hp : s.chip.payloadReady <;> simp [hm]

/-! ### Carrier sense (R210, R212) -/

/-- When CanSend gives 1 (R210). -/
theorem canSendResult_iff (s : State) :
    canSendResult s = true ↔
      s.mode = .rx ∧ s.slot.frameLen = 0 ∧ (rssiAnswer s).toInt < s.params.csmaThreshold.toInt := by
  simp [canSendResult, canSample, BitVec.slt, and_assoc]

/-- What CanSend does: nothing, one sample, or one sample and the claim (R210). -/
theorem canSendEffect_cases (s : State) :
    (canSample s = false ∧ canSendResult s = false ∧ canSendEffect s = s) ∨
    (canSample s = true ∧ canSendResult s = false ∧ canSendEffect s = chipReadRssi s) ∨
    (canSample s = true ∧ canSendResult s = true ∧ canSendEffect s = setModeNow .standby (chipReadRssi s)) := by
  unfold canSendEffect
  cases h : canSample s <;> cases h2 : canSendResult s <;> simp
  simp [canSendResult, h] at h2

/-- The segment with CanSend: claimed, deadline, or the second window (R212). -/
theorem csmaTestSegment_cases (bound : Word) (done : Bool → State → State) (s : State) :
    (canSendResult s = true ∧ csmaTestSegment bound done s = done true (canSendEffect s)) ∨
    (canSendResult s = false ∧ bound ≤ s.clock - s.work.tCsma ∧
      csmaTestSegment bound done s = done false (canSendEffect s)) ∨
    (canSendResult s = false ∧ ¬bound ≤ s.clock - s.work.tCsma ∧
      csmaTestSegment bound done s = toPhase .csmaPoll (canSendEffect s)) := by
  have hc : (canSendEffect s).clock = s.clock := by
    rcases canSendEffect_cases s with ⟨-, -, h⟩ | ⟨-, -, h⟩ | ⟨-, -, h⟩ <;> rw [h] <;> simp [chipReadRssi_eq]
  have hw : (canSendEffect s).work = s.work := by
    rcases canSendEffect_cases s with ⟨-, -, h⟩ | ⟨-, -, h⟩ | ⟨-, -, h⟩ <;> rw [h] <;> simp [chipReadRssi_eq]
  unfold csmaTestSegment elapsed
  simp only [hc, hw]
  cases canSendResult s <;> by_cases hb : bound ≤ s.clock - s.work.tCsma <;> simp [hb]

/-! ### Delivery (R230 to R235) -/

/-- The head of SEND's body (R231). -/
theorem sendHead_eq (s : State) :
    sendHead s =
      { s with
        ie := !s.inIsr
        phase := .csmaEnter
        chip := { s.chip with payloadReady := false, rxFifo := [] }
        busTrace := .rxRestart :: s.busTrace } := rfl

/-- A poll of TransmitFrame's mode-ready wait ends it or stays (R230, R132). -/
theorem transmitReady_cases (x : Transmission) (s : State) :
    ((modeReadyAnswer s = true ∨ ReadyBoundReached s) ∧
      transmitReady x s =
        writeFrameThen x.target x.reqAck x.ackReply (setModeThen .tx .txSend sentWait)
          (chipSetDio0Map true (chipReadModeReady s))) ∨
    ((modeReadyAnswer s = false ∧ ¬ReadyBoundReached s) ∧ transmitReady x s = .next (chipReadModeReady s)) := by
  rw [← modeReadyExpired_iff]
  unfold transmitReady
  simp only [modeReadyExpired_read]
  by_cases h1 : modeReadyAnswer s = true <;> by_cases h2 : modeReadyExpired s = true <;> simp [h1, h2]

/-- A poll of the packet-sent wait ends it or stays (R230). -/
theorem transmitSent_cases (x : Transmission) (s : State) :
    ((s.chip.packetSent = true ∨ s.params.txTimeout ≤ s.clock - s.work.tTx) ∧
      transmitSent x s = setModeThen .standby .txEnd x.after (chipReadPacketSent s)) ∨
    ((s.chip.packetSent = false ∧ ¬s.params.txTimeout ≤ s.clock - s.work.tTx) ∧
      transmitSent x s = chipReadPacketSent s) := by
  have he : elapsed (chipReadPacketSent s) (chipReadPacketSent s).work.tTx = s.clock - s.work.tTx := rfl
  unfold transmitSent
  simp only [he]
  cases s.chip.packetSent <;> by_cases h : s.params.txTimeout ≤ s.clock - s.work.tTx <;> simp [h]

/-- When a held frame is the ACK waited for (R233). -/
theorem ackMatches_iff (src : Byte) (s : State) :
    ackMatches src s = true ↔ (s.slot.sender = src ∨ src = 255) ∧ s.slot.ackRcvd = true := by
  simp [ackMatches, Config.broadcast]

/-- A poll of the ACK wait: exhausted, the next attempt, or AckReceived (R235). -/
theorem ackWaitSegment_cases (target retries : Byte) (s : State) :
    (s.argTmo ≤ s.clock - s.work.tAck ∧ s.work.attempt = retries.setWidth 9 + 1 ∧
      ackWaitSegment target retries s = finishWith (boolWord false) s) ∨
    (s.argTmo ≤ s.clock - s.work.tAck ∧ s.work.attempt ≠ retries.setWidth 9 + 1 ∧
      ackWaitSegment target retries s = toPhase .retry s) ∨
    (¬s.argTmo ≤ s.clock - s.work.tAck ∧
      ackWaitSegment target retries s =
        ackReceivedThen target .ackPoll (fun r => if r then finishWith (boolWord true) else toPhase .ackWait) s) := by
  unfold ackWaitSegment elapsed
  by_cases h : s.argTmo ≤ s.clock - s.work.tAck
  · by_cases h2 : s.work.attempt = retries.setWidth 9 + 1
    · exact .inl ⟨h, h2, by rw [if_pos h, if_pos h2]⟩
    · exact .inr (.inl ⟨h, h2, by rw [if_pos h, if_neg h2]⟩)
  · exact .inr (.inr ⟨h, by rw [if_neg h]⟩)

/-! ### Moves of HOST and ENV (R61, R62, R316, R340) -/

/-- The accesses with a meaning are the aligned 32-bit ones of the block (R61, R75). -/
theorem hostReg_eq_none {width offset : Nat} :
    hostReg width offset = none ↔ ¬(width = 32 ∧ offset % 4 = 0 ∧ offset ≤ 0x1C) := by
  unfold hostReg
  constructor
  · intro h
    repeat' (split at h)
    all_goals first | omega | simp at h
  · intro h
    repeat' split
    all_goals first | rfl | (exfalso; omega)

/-- A host write: ignored, F_BUSY, or the register (R62, R304, R305). -/
theorem hostWrite_cases (r : HostReg) (v : Word) (s : State) :
    (s.faultCode ≠ .none ∧ hostWrite r v s = s) ∨
    (s.faultCode = .none ∧ s.busy = true ∧ hostWrite r v s = raiseFault .busy s) ∨
    (s.faultCode = .none ∧ s.busy = false ∧ hostWrite r v s = writeIdle r v s) := by
  unfold hostWrite
  by_cases hf : s.faultCode = .none <;> cases hb : s.busy <;> simp [hf]

/-- A frame arrival: received, lost, or refused (R316, R343). -/
theorem frameArrives_cases (bytes : List Byte) (s : State) :
    (s.chip.opMode = s.chipMode ∧ s.chipMode = .rx ∧ s.chip.payloadReady = false ∧
      frameArrives bytes s = .next { s with chip := { s.chip with payloadReady := true, rxFifo := bytes } }) ∨
    (s.chip.opMode = s.chipMode ∧ (s.chipMode ≠ .rx ∨ s.chip.payloadReady = true) ∧
      frameArrives bytes s = .next s) ∨
    (s.chip.opMode ≠ s.chipMode ∧ frameArrives bytes s = .refused .chipOutOfStep) := by
  unfold frameArrives canArrive
  by_cases ho : s.chip.opMode = s.chipMode <;> by_cases hm : s.chipMode = .rx <;>
    cases hp : s.chip.payloadReady <;> simp_all

/-- When a capture is due (R308). -/
theorem captureDue_iff (s : State) :
    captureDue s = true ↔ s.irqPending = true ∧ s.ie = true ∧ s.inIsr = false ∧ s.faultCode = .none := by
  simp [captureDue, and_assoc]

/-- A packet-sent event: the frame goes on the air, nothing, or refused (R316, R343). -/
theorem packetSentEvent_cases (s : State) :
    (s.chip.opMode = s.chipMode ∧ s.chipMode = .tx ∧ s.chip.txLoaded = true ∧
      packetSentEvent s = .next { s with
        chip := { s.chip with air := s.chip.air ++ [s.chip.txFrame], packetSent := true, txLoaded := false } }) ∨
    (s.chip.opMode = s.chipMode ∧ (s.chipMode ≠ .tx ∨ s.chip.txLoaded = false) ∧ packetSentEvent s = .next s) ∨
    (s.chip.opMode ≠ s.chipMode ∧ packetSentEvent s = .refused .chipOutOfStep) := by
  unfold packetSentEvent canComplete
  by_cases ho : s.chip.opMode = s.chipMode <;> by_cases hm : s.chipMode = .tx <;>
    cases hp : s.chip.txLoaded <;> simp_all

/-- What a reset event keeps (R340). -/
theorem resetEvent_keeps (s : State) :
    (resetEvent s).params = s.params ∧ (resetEvent s).chip = s.chip ∧ (resetEvent s).clock = s.clock ∧
      (resetEvent s).hostMem = s.hostMem ∧ (resetEvent s).inputs = s.inputs := ⟨rfl, rfl, rfl, rfl, rfl⟩

end Sys2Proof.Machine
end

