-- ==== Sys2Proof/Machine/Assembler.lean ====
section
/-! DEFINITION. The assembler of 30_encoding.md R106, from tokens to host register writes: an argument-register operand
is a host write before the CMD write, and the pseudo-instructions expand to commands. The machine does not use it; it
says what a command line of the spec stands for. -/

namespace Sys2Proof.Machine

/-- The operand names (R106). -/
inductive AsmName where
  | target | src | addr | net | level | mode | index | retries
  | reqAck | ackReply | on | key
  | len | ptr | tmo | freq
  deriving DecidableEq, Repr

/-- An operand value: a number, or a mode written by name (R106). -/
inductive AsmValue where
  | number (n : Nat)
  | modeName (m : Mode)
  deriving DecidableEq, Repr

/-- A line: a command with named operands in any order, or a pseudo-instruction (R106). -/
inductive AsmLine where
  | command (mnemonic : String) (operands : List (AsmName × AsmValue))
  | receiveDone
  | pollReceived
  | sleep
  | sendWithRetry (t r tmo : Nat)
  | ackReceived (f : Nat)
  deriving DecidableEq, Repr

/-- Why a line is refused (A29). -/
inductive AsmError where
  /-- The mnemonic is in no row of R102. -/
  | unknownMnemonic (mnemonic : String)
  /-- The command has no such operand. -/
  | noSuchOperand (name : AsmName)
  /-- The operand is given twice. -/
  | repeatedOperand (name : AsmName)
  /-- The value does not fit the operand, or a mode name stands where no mode does. -/
  | badValue (name : AsmName)
  deriving DecidableEq, Repr

/-- Where an operand goes: field A, field B, a bit of F, or an argument register at its offset (R100, R101, R75). -/
inductive AsmPlace where
  | fieldA
  | fieldB
  | flag (bit : Nat)
  | register (offset bits : Nat)
  deriving DecidableEq, Repr

/-- The place of an operand (R100, R101, R106). -/
def AsmName.place : AsmName → AsmPlace
  | .target | .src | .addr | .level | .mode | .index => .fieldA
  | .net | .retries => .fieldB
  | .reqAck => .flag 0
  | .ackReply => .flag 1
  | .on => .flag 2
  | .key => .flag 3
  | .len => .register 0x04 8
  | .ptr => .register 0x08 16
  | .tmo => .register 0x0C 32
  | .freq => .register 0x10 32

/-- The operands of a command: the columns A, B, F and arg registers of R102. -/
def asmOperands (mnemonic : String) : Option (List AsmName) :=
  ([("INIT", [.addr, .net]), ("SET_NETWORK", [.net]), ("SET_PROMISCUOUS", [.on]), ("SET_POWER_LEVEL", [.level]),
    ("SET_FREQUENCY", [.freq]), ("GET_FREQUENCY", []), ("SET_ENCRYPTION_KEY", [.key, .ptr]), ("SLEEP", []),
    ("SEND", [.target, .reqAck, .len, .ptr]), ("SEND_WITH_RETRY", [.target, .retries, .len, .ptr, .tmo]),
    ("SEND_ACK", [.len, .ptr]), ("ACK_RECEIVED", [.src]), ("ACK_REQUESTED", []), ("POLL_RECEIVED", []),
    ("SET_MODE", [.mode]), ("RECEIVE_BEGIN", []), ("CAN_SEND", []), ("AWAIT_CLEAR_CHANNEL", [.tmo]),
    ("WRITE_FRAME", [.target, .reqAck, .ackReply, .len, .ptr]), ("GET_SENDER", []), ("GET_TARGET", []),
    ("GET_LENGTH", []), ("GET_RSSI", []), ("GET_PAYLOAD_BYTE", [.index]), ("GET_ACK_FLAGS", [])] :
    List (String × List AsmName)).lookup mnemonic

/-- The value of an operand as a number; a mode name stands for its code, and only as `mode` (R106). -/
def asmNumber (name : AsmName) : AsmValue → Option Nat
  | .number n => some n
  | .modeName m =>
    if name = .mode then
      (match m with
      | .sleep => some 0 | .standby => some 1 | .synth => some 2 | .rx => some 3 | .tx => some 4)
    else none

/-- The width of a place in bits. -/
def AsmPlace.width : AsmPlace → Nat
  | .fieldA | .fieldB => 8
  | .flag _ => 1
  | .register _ bits => bits

/-- What the operands read so far give: the fields of the command word, and the argument-register writes. -/
structure AsmFields where
  a : Byte
  b : Byte
  f : Byte
  writes : List Input
  deriving DecidableEq, Repr

/-- One operand put in its place. -/
def asmPut (name : AsmName) (n : Nat) (x : AsmFields) : AsmFields :=
  match name.place with
  | .fieldA => { x with a := BitVec.ofNat 8 n }
  | .fieldB => { x with b := BitVec.ofNat 8 n }
  | .flag bit => { x with f := x.f ||| flagBit bit (n == 1) }
  | .register offset _ => { x with writes := x.writes ++ [.hostWrite 32 offset (BitVec.ofNat 32 n)] }

/-- The operands of a command, in the order written; an omitted field is 0, an omitted register is not written (R106,
A29). -/
def asmFields (legal : List AsmName) : List (AsmName × AsmValue) → AsmFields → Except AsmError AsmFields
  | [], x => .ok x
  | (name, v) :: rest, x =>
    if !legal.contains name then .error (.noSuchOperand name)
    else if (rest.map Prod.fst).contains name then .error (.repeatedOperand name)
    else
      (match asmNumber name v with
      | some n =>
        if n < 2 ^ name.place.width then asmFields legal rest (asmPut name n x) else .error (.badValue name)
      | none => .error (.badValue name))

/-- The opcode of a mnemonic (R102). -/
def asmOpcode (mnemonic : String) : Option Byte :=
  (opcodeTable.find? (fun r => r.mnemonic == mnemonic)).map (·.opc)

/-- A command line: its register writes, and then the CMD write (R106). -/
def asmCommand (mnemonic : String) (operands : List (AsmName × AsmValue)) : Except AsmError (List Input) :=
  match asmOpcode mnemonic, asmOperands mnemonic with
  | some opc, some legal =>
    (match asmFields legal operands ⟨0, 0, 0, []⟩ with
    | .ok x => .ok (x.writes ++ [.hostWrite 32 0x00 (cmdWord opc x.a x.b x.f)])
    | .error e => .error e)
  | _, _ => .error (.unknownMnemonic mnemonic)

/-- Any line (R106). -/
def assemble : AsmLine → Except AsmError (List Input)
  | .command mnemonic operands => asmCommand mnemonic operands
  | .receiveDone => asmCommand "POLL_RECEIVED" []
  | .pollReceived => asmCommand "POLL_RECEIVED" []
  | .sleep => asmCommand "SLEEP" []
  | .sendWithRetry t r tmo =>
    asmCommand "SEND_WITH_RETRY" [(.target, .number t), (.retries, .number r), (.tmo, .number tmo)]
  | .ackReceived f => asmCommand "ACK_RECEIVED" [(.src, .number f)]

end Sys2Proof.Machine
end

