-- ==== Sys2Proof/Tests/Slice0.lean ====
section
/-! SUPPORT. Tests. Expected values are written out from 95_test_vectors.md (the vector is named at each test) and from
the examples of the rules; after them, one witness for the hypotheses of each obligation, clause by clause. -/

namespace Sys2Proof.Tests

open Sys2Proof Sys2Proof.Machine

/-! ## Helpers -/

/-- A node after INIT, idle. -/
def node : State := { State.reset with initDone := true, ownAddr := 2 }
/-- The node with a command word latched, at phase 0. -/
def running (w : Word) : State := { node with busy := true, cmd := w, curCmd := w }
/-- The node at a phase of a command. -/
def atPhase (w : Word) (p : Phase) (m : Mode) : State :=
  { running w with phase := p, mode := m, chipMode := m, chip := { State.reset.chip with opMode := m } }
/-- A state in RX, chip in step. -/
def inRx (s : State) : State := { s with mode := .rx, chipMode := .rx, chip := { s.chip with opMode := .rx } }
/-- ENV's answers decided beforehand: mode ready, and one RSSI sample. -/
def answering (ready : Bool) (rssi : Half) (s : State) : State := { s with answers := ⟨[ready], [rssi], [0x3689CAC0]⟩ }
/-- The slot holds the PING frame of V-RX-1. -/
def holdingPing (s : State) : State :=
  { s with slot :=
      { frameLen := 7, dataLen := 4, sender := 1, target := 2, ackReq := true, ackRcvd := false, rssi := -70
        payload := Vector.ofFn fun i => [0x50#8, 0x49#8, 0x4E#8, 0x47#8].getD i.val 0 } }
/-- A frame waits in the chip's FIFO. -/
def withFrame (bytes : List Byte) (s : State) : State :=
  { inRx s with chip := { (inRx s).chip with payloadReady := true, rxFifo := bytes } }
/-- Host memory with PING at 0x0100, and the argument registers at it. -/
def withPing (s : State) : State :=
  { s with argPtr := 0x0100, argLen := 4, hostMem := [(0x100, 0x50), (0x101, 0x49), (0x102, 0x4E), (0x103, 0x47)] }
/-- Whether an outcome is a next state with a property. -/
def after (o : Result) (p : State → Bool) : Bool :=
  match o with
  | .next t => p t
  | _ => false
/-- The next state of an outcome, for the witnesses. -/
def nextOf (o : Result) : State :=
  match o with
  | .next t => t
  | _ => State.reset
/-- A latched fault, with CUR_CMD recorded, and nothing else. -/
def faults (c : FaultCode) (s : State) : Bool :=
  after (step s) fun t => t == { s with faultCode := c, faultInfo := s.curCmd, busy := true }

/-! ## Decoding: each row's word, from R102 and the examples of the rules -/

theorem test_decode_configuration :
    decodeCommand 0x01012100 = .ok (.init 1 0x21) ∧ decodeCommand 0x02002200 = .ok (.setNetwork 0x22) ∧
    decodeCommand 0x03000004 = .ok (.setPromiscuous true) ∧ decodeCommand 0x041F0000 = .ok (.setPowerLevel 31) ∧
    decodeCommand 0x05000000 = .ok .setFrequency ∧ decodeCommand 0x06000000 = .ok .getFrequency ∧
    decodeCommand 0x07000008 = .ok (.setEncryptionKey true) ∧ decodeCommand 0x08000000 = .ok .sleep := by decide

theorem test_decode_delivery :
    decodeCommand 0x10020001 = .ok (.send 2 true) ∧ decodeCommand 0x11020200 = .ok (.sendWithRetry 2 2) ∧
    decodeCommand 0x12000000 = .ok .sendAck ∧ decodeCommand 0x13020000 = .ok (.ackReceived 2) ∧
    decodeCommand 0x14000000 = .ok .ackRequested ∧ decodeCommand 0x18000000 = .ok .pollReceived := by decide

theorem test_decode_primitives :
    decodeCommand 0x20040000 = .ok (.setMode 4) ∧ decodeCommand 0x21000000 = .ok .receiveBegin ∧
    decodeCommand 0x22000000 = .ok .canSend ∧ decodeCommand 0x23000000 = .ok .awaitClearChannel ∧
    decodeCommand 0x24020001 = .ok (.writeFrame 2 true false) ∧
    decodeCommand 0x24010002 = .ok (.writeFrame 1 false true) := by decide

theorem test_decode_accessors :
    decodeCommand 0x30000000 = .ok .getSender ∧ decodeCommand 0x31000000 = .ok .getTarget ∧
    decodeCommand 0x32000000 = .ok .getLength ∧ decodeCommand 0x33000000 = .ok .getRssi ∧
    decodeCommand 0x34030000 = .ok (.getPayloadByte 3) ∧ decodeCommand 0x35000000 = .ok .getAckFlags := by decide

/-- The frames of S1 and P2, and one with both ACK bits (V-RX-A4). -/
theorem test_decode_frames :
    decodeFrame [7, 9, 1, 0x00, 0x44, 0x41, 0x54, 0x41] = .ok (.frameData ⟨7, 9, 1, 0, [0x44, 0x41, 0x54, 0x41]⟩) ∧
    decodeFrame [7, 2, 1, 0x40, 0x50, 0x49, 0x4E, 0x47] =
      .ok (.frameDataReqack ⟨7, 2, 1, 0, [0x50, 0x49, 0x4E, 0x47]⟩) ∧
    decodeFrame [7, 1, 2, 0x80, 0x50, 0x4F, 0x4E, 0x47] = .ok (.frameAck ⟨7, 1, 2, 0, [0x50, 0x4F, 0x4E, 0x47]⟩) ∧
    decodeFrame [3, 2, 1, 0xC1] = .ok (.frameAckReqack ⟨3, 2, 1, 1, []⟩) := by decide

/-- V-EX-1, V-EX-2, V-FC-7, V-CF-7, and a frame image without a control byte. -/
theorem test_decode_rejects :
    decodeCommand 0x09000000 = .error (.undefinedOpcode 0x09) ∧
    decodeCommand 0x20040100 = .error (.reservedField "SET_MODE") ∧
    decodeCommand 0x24020004 = .error (.reservedField "WRITE_FRAME") ∧
    decodeCommand 0x03000005 = .error (.reservedField "SET_PROMISCUOUS") ∧
    decodeFrame [2, 9, 1] = .error .noControlByte := by decide

theorem test_decodeTableWord :
    decodeTableWord 32 0x041F0000 = some (.setPowerLevel 31) ∧ decodeTableWord 32 0x09000000 = none ∧
    decodeTableWord 8 0xC0 = some (.frameAckReqack ⟨0, 0, 0, 0, []⟩) ∧ decodeTableWord 0 0 = some .capture := by decide

/-! ## WellFormed: an ill-formed term for each check -/

theorem test_wellFormed_refuses_mode : (Instr.setMode 5).wellFormed = false := by decide
theorem test_wellFormed_refuses_level : (Instr.setPowerLevel 32).wellFormed = false := by decide
theorem test_wellFormed_refuses_index : (Instr.getPayloadByte 61).wellFormed = false := by decide
theorem test_wellFormed_refuses_broadcast_address : (Instr.init 255 33).wellFormed = false := by decide
theorem test_wellFormed_refuses_short_frame : (Instr.frameData ⟨7, 2, 1, 0, [0x50]⟩).wellFormed = false := by decide
theorem test_wellFormed_accepts : (Instr.setMode 4).wellFormed && (Instr.init 254 0).wellFormed &&
    (Instr.frameAck ⟨4, 2, 1, 0, [0x50]⟩).wellFormed = true := by decide

/-! ## One step of each instruction -/

/-- V-CF-1. -/
theorem test_init : after (step (State.reset.withFetchWord 32 0x01012100)) (fun t =>
    t.ownAddr == 1 && t.netId == 0x21 && statusWord t == 0x00000006 &&
    t.busTrace == [.setDio0Map false, .setSyncNetwork 0x21]) = true := by decide
/-- V-CF-2. -/
theorem test_init_broadcast : after (step (State.reset.withFetchWord 32 0x01FF2100)) (fun t =>
    statusWord t == 0x00000505 && t.faultInfo == 0x01FF2100) = true := by decide
/-- V-CF-5. -/
theorem test_setNetwork : after (step (running 0x02002200)) (fun t => t.netId == 0x22 && t.chip.netId == 0x22) = true := by
  decide
/-- V-CF-6. -/
theorem test_setPromiscuous : after (step (running 0x03000004)) (fun t => t.promisc) = true := by decide
/-- V-CF-9. -/
theorem test_setPowerLevel_refuses : faults .illegalArg (running 0x04200000) = true := by decide
/-- V-CF-10. -/
theorem test_setFrequency : after (step { running 0x05000000 with argFreq := 0x3689CAC0 }) (fun t =>
    t.chip.carrier == 0x3689CAC0 && t.mode == .standby && !t.busy) = true := by decide
theorem test_getFrequency : after (step (answering true 0 (running 0x06000000))) (fun t =>
    t.result == 0x3689CAC0 && !t.busy) = true := by decide
/-- V-CF-11 and V-CF-12. -/
theorem test_setEncryptionKey : after (step { running 0x07000008 with argPtr := 0xFFF0, hostMem := [(0xFFFF, 9)] })
    (fun t => t.chip.aesKey == some [0, 0, 0, 0, 0, 0, 0, 0, 0, 0, 0, 0, 0, 0, 0, 9]) = true := by decide
theorem test_setEncryptionKey_range : faults .hostAddr { running 0x07000008 with argPtr := 0xFFF1 } = true := by decide
/-- V-MC-6. -/
theorem test_sleep : after (step (inRx (running 0x08000000))) (fun t =>
    t.mode == .sleep && t.busTrace == [.setOpMode .sleep]) = true := by decide
/-- V-DL-1: the head, and the unit that writes the frame. -/
theorem test_send_head : after (step (withPing (inRx (running 0x10020001)))) (fun t =>
    t.phase == .csmaEnter && t.busTrace == [.rxRestart]) = true := by decide
theorem test_send_transmit : after (step (answering true 0 (withPing { atPhase 0x10020001 .txReady .standby with
    ownAddr := 1 }))) (fun t =>
    t.chip.txFrame == [7, 2, 1, 0x40, 0x50, 0x49, 0x4E, 0x47] && t.mode == .tx && t.dio0Map && t.phase == .txSent &&
    t.busTrace == [.setOpMode .tx, .fifoWrite [7, 2, 1, 0x40, 0x50, 0x49, 0x4E, 0x47], .setDio0Map true,
      .readModeReady true]) = true := by decide
/-- V-DL-R1: one attempt, ARG_TMO 0. -/
theorem test_sendWithRetry_exhausted : after (step { atPhase 0x11020000 .ackWait .standby with
    work := { State.reset.work with attempt := 1 }, result := 7 }) (fun t => t.result == 0 && !t.busy) = true := by decide
/-- V-DL-R3: an ACK from 2 inside the wait. -/
theorem test_sendWithRetry_acked : after (step { atPhase 0x11020200 .ackWait .rx with
    argTmo := 40, slot := { State.reset.slot with frameLen := 3, sender := 2, ackRcvd := true } }) (fun t =>
    t.result == 1 && !t.busy && t.mode == .standby) = true := by decide
/-- V-DL-4: the end of SEND_ACK restores sender and RSSI. -/
theorem test_sendAck_restores : after (step { atPhase 0x12000000 .txSent .tx with
    chip := { State.reset.chip with packetSent := true, opMode := .tx }
    work := { State.reset.work with savedSender := 1, savedRssi := -70 } }) (fun t =>
    t.slot.sender == 1 && t.slot.rssi == -70 && t.mode == .standby && !t.busy) = true := by decide
/-- V-EX-5: F_SLOT_RACE before F_HOST_ADDR. -/
theorem test_sendAck_slot_race : faults .slotRace { inRx (running 0x12000000) with argPtr := 0xFFFF, argLen := 4 } = true :=
  by decide
/-- V-DL-A2 and V-DL-A3. -/
theorem test_ackReceived_other_sender : after (step { inRx (running 0x13020000) with
    slot := { State.reset.slot with frameLen := 3, sender := 3, ackRcvd := true }, result := 7 }) (fun t =>
    t.result == 0 && pipeline t == .consumed) = true := by decide
theorem test_ackReceived_any_sender : after (step { inRx (running 0x13FF0000) with
    slot := { State.reset.slot with frameLen := 3, sender := 3, ackRcvd := true } }) (fun t => t.result == 1) = true := by
  decide
/-- V-RX-A1 and V-RX-A2. -/
theorem test_ackRequested : after (step (holdingPing (running 0x14000000))) (fun t => t.result == 1) = true := by decide
theorem test_ackRequested_broadcast : after (step { running 0x14000000 with
    slot := { State.reset.slot with ackReq := true, target := 255 }, result := 7 }) (fun t => t.result == 0) = true := by
  decide
/-- V-RX-P1 and V-RX-P3. -/
theorem test_pollReceived_arms : after (step (running 0x18000000)) (fun t =>
    t.result == 0 && pipeline t == .armed &&
    t.busTrace == [.setOpMode .rx, .setDio0Map false, .readPayloadReady false]) = true := by decide
theorem test_pollReceived_filled : after (step (holdingPing (inRx (running 0x18000000)))) (fun t =>
    t.result == 1 && pipeline t == .consumed && t.slot.sender == 1) = true := by decide
/-- V-MC-2, and the first unit of V-MC-7. -/
theorem test_setMode_tx : after (step { running 0x20040000 with params := { resetParams with hpVariant := true } })
    (fun t => t.mode == .tx && t.chipMode == .tx && t.hpOn && t.busTrace == [.setHighPower true, .setOpMode .tx]) = true :=
  by decide
theorem test_setMode_wakes : after (step (atPhase 0x20010000 .start .sleep)) (fun t =>
    t.chipMode == .standby && t.mode == .sleep && t.phase == .wake .standby .finish && t.busy) = true := by decide
/-- The example of R172. -/
theorem test_receiveBegin : after (step (holdingPing (running 0x21000000))) (fun t =>
    t.mode == .rx && t.slot.frameLen == 0 && t.slot.sender == 0 && !t.dio0Map && t.slot.payload[0] == 0x50) = true := by
  decide
/-- V-CA-2: a sample equal to the threshold; V-CA-4: one below. -/
theorem test_canSend_equal : after (step (answering true (-90) (inRx (running 0x22000000)))) (fun t =>
    t.result == 0 && t.mode == .rx) = true := by decide
theorem test_canSend_below : after (step (answering true (-91) (inRx (running 0x22000000)))) (fun t =>
    t.result == 1 && t.mode == .standby) = true := by decide
/-- V-CA-8: ARG_TMO 0. -/
theorem test_awaitClearChannel_zero : after (step { atPhase 0x23000000 .csmaTest .standby with result := 7 }) (fun t =>
    t.result == 0 && t.mode == .standby && !t.busy) = true := by decide
/-- V-CA-11: the second unit consumes the held frame. -/
theorem test_awaitClearChannel_consumes : after (step (holdingPing (atPhase 0x23000000 .csmaPoll .rx))) (fun t =>
    pipeline t == .consumed && t.phase == .csmaTest && t.busy) = true := by decide
/-- V-FC-1 and V-FC-6. -/
theorem test_writeFrame : after (step (withPing { running 0x24020001 with ownAddr := 1 })) (fun t =>
    t.chip.txFifo == [7, 2, 1, 0x40, 0x50, 0x49, 0x4E, 0x47] && t.work.lAcc == 4 && t.mode == .standby) = true := by decide
theorem test_writeFrame_both_flags : after (step { running 0x24020003 with ownAddr := 1 }) (fun t =>
    t.chip.txFifo == [3, 2, 1, 0x80]) = true := by decide
/-- V-RX-1, the accessors after the poll. -/
theorem test_getSender : after (step (holdingPing (running 0x30000000))) (fun t => t.result == 1) = true := by decide
theorem test_getTarget : after (step (holdingPing (running 0x31000000))) (fun t => t.result == 2) = true := by decide
theorem test_getLength : after (step (holdingPing (running 0x32000000))) (fun t => t.result == 4) = true := by decide
theorem test_getRssi : after (step (holdingPing (running 0x33000000))) (fun t => t.result == 0xFFFFFFBA) = true := by decide
theorem test_getPayloadByte : after (step (holdingPing (running 0x34030000))) (fun t => t.result == 0x47) = true := by decide
/-- V-EX-4: F_ILLEGAL_ARG before F_SLOT_RACE. -/
theorem test_getPayloadByte_range : faults .illegalArg (inRx (running 0x343D0000)) = true := by decide
theorem test_getAckFlags : after (step (holdingPing (running 0x35000000))) (fun t => t.result == 1) = true := by decide
/-- V-RX-1. -/
theorem test_capture_accepts : after (step { answering true (-70)
    (withFrame [7, 2, 1, 0x40, 0x50, 0x49, 0x4E, 0x47] node) with irqPending := true }) (fun t =>
    t.slot.frameLen == 7 && t.slot.dataLen == 4 && t.slot.sender == 1 && t.slot.target == 2 && t.slot.ackReq &&
    !t.slot.ackRcvd && t.slot.payload.toList.take 5 == [0x50, 0x49, 0x4E, 0x47, 0] && t.slot.rssi == -70 &&
    t.mode == .rx && !t.chip.payloadReady && t.ie && !t.inIsr && !t.irqPending) = true := by decide
/-- V-RX-2: a rejected frame destroys a held frame. -/
theorem test_capture_rejects : after (step { answering true (-80)
    (withFrame [7, 9, 3, 0, 1, 2, 3, 4] (holdingPing node)) with irqPending := true }) (fun t =>
    t.slot == { State.reset.slot with rssi := -80, payload := (holdingPing node).slot.payload } &&
    t.busTrace == [.readRssi (-80), .setOpMode .rx, .setDio0Map false, .rxRestart, .readPayloadReady true,
      .fifoRead [7, 9], .setOpMode .standby, .readPayloadReady true]) = true := by decide
/-- R316: a frame of each class arrives in RX. -/
theorem test_frameData : after (exec (.frameData ⟨4, 2, 1, 0, [9]⟩) (inRx node)) (fun t =>
    t.chip.payloadReady && t.chip.rxFifo == [4, 2, 1, 0x00, 9]) = true := by decide
theorem test_frameDataReqack : after (step { inRx node with inputs := [.frame 0 [4, 2, 1, 0x40, 9]] }) (fun t =>
    t.chip.payloadReady && t.irqPending && t.chip.rxFifo == [4, 2, 1, 0x40, 9]) = true := by decide
theorem test_frameAck : after (exec (.frameAck ⟨3, 2, 1, 0, []⟩) (inRx node)) (fun t =>
    t.chip.rxFifo == [3, 2, 1, 0x80]) = true := by decide
theorem test_frameAckReqack : after (exec (.frameAckReqack ⟨3, 2, 1, 0x3F, []⟩) (inRx node)) (fun t =>
    t.chip.rxFifo == [3, 2, 1, 0xFF]) = true := by decide

/-! ## HOST, faults, reset -/

/-- V-EX-1, V-EX-2, V-EX-3. -/
theorem test_decode_faults : faults .illegalCommand { running 0x09000000 with initDone := false } = true ∧
    faults .illegalCommand { running 0x20040100 with initDone := false } = true ∧
    faults .notInitialized { running 0x343D0000 with initDone := false } = true := by decide
/-- V-EX-6 and V-EX-7. -/
theorem test_busy_write : after (step { running 0x10020001 with inputs := [.hostWrite 32 0x04 9] }) (fun t =>
    t.faultCode == .busy && t.faultInfo == 0x10020001 && t.argLen == 0) = true := by decide
theorem test_write_under_fault : after (step { running 0x10020001 with
    faultCode := .notInitialized, inputs := [.hostWrite 32 0 0x18000000] }) (fun t =>
    t.curCmd == 0x10020001 && t.faultCode == .notInitialized) = true := by decide
/-- V-RS-1 and V-RS-2. -/
theorem test_reset_status : statusWord State.reset = 0x00000004 ∧
    after (step { inRx node with faultCode := .slotRace, busy := true, inputs := [.reset] }) (fun t =>
      statusWord t == 0x00000004 && !t.busy) = true := by decide
/-- A packet sent in TX rises on DIO0 and latches (V-DL-1 step 4). -/
theorem test_packet_sent : after (step { atPhase 0x10020001 .txSent .tx with
    dio0Map := true, inputs := [.packetSent]
    chip := { State.reset.chip with opMode := .tx, txLoaded := true, txFrame := [3, 255, 1, 0] } }) (fun t =>
    t.irqPending && t.chip.air == [[3, 255, 1, 0]] && !t.chip.txLoaded) = true := by decide
/-- The interface's three placements run as the very next step. -/
theorem test_withFetchWord : after (step (State.reset.withFetchWord 0 0)) (fun t =>
    !t.irqPending && t.busTrace == [.readPayloadReady false]) = true ∧
    after (step (State.reset.withFetchWord 8 0x40)) (fun t => t.chip == State.reset.chip) = true ∧
    after (step ((inRx node).withFetchWord 8 0x40)) (fun t => t.chip.rxFifo == [0, 0, 0, 0x40]) = true := by decide
/-- The example of R106. -/
theorem test_assemble : assemble (.command "SEND"
      [(.target, .number 2), (.reqAck, .number 1), (.ptr, .number 0x0100), (.len, .number 4)]) =
    .ok [.hostWrite 32 0x08 0x0100, .hostWrite 32 0x04 4, .hostWrite 32 0x00 0x10020001] := by decide
theorem test_assemble_refuses : assemble (.command "SET_MODE" [(.net, .number 1)]) = .error (.noSuchOperand .net) ∧
    assemble (.command "SET_MODE" [(.mode, .modeName .rx)]) = .ok [.hostWrite 32 0 0x20030000] := by decide

/-! ## Witnesses: for each obligation with hypotheses, a state and operands that meet them, clause by clause -/

/-- A command in a wake wait, the chip about to answer ready. -/
def wakes (w : Word) (m : Mode) (r : Resume) : State :=
  answering true 0 { atPhase w (.wake m r) m with mode := .sleep }
/-- The mode-ready bound of 100 ms reached exactly. -/
def atBound (s : State) : State := { answering false 0 s with clock := 100 }

theorem witness_EncodeOfDecode :
    decode (.command 0x20040000) = .ok (.setMode 4) ∧ decode (.frame [3, 2, 1, 0xC1]) = .ok (.frameAckReqack ⟨3, 2, 1, 1, []⟩) ∧
    decode .event = .ok .capture := by decide
theorem witness_DecodeMatchesRow :
    (∃ r ∈ opcodeTable, (0x20040000 : Word) &&& r.mask = r.value) ∧ (∀ r ∈ opcodeTable, (0x20040100 : Word) &&& r.mask ≠ r.value) ∧
    (0x35000000 : Word) &&& opcodeTable[24].mask = opcodeTable[24].value := by decide
theorem witness_StepRunsDecodedCommand :
    EngineTurn (running 0x08000000) ∧ captureDue (running 0x08000000) = false ∧ (running 0x08000000).faultCode = .none ∧
    (running 0x08000000).busy = true ∧ decodeCommand (running 0x08000000).curCmd = .ok .sleep := ⟨.inl rfl, by decide⟩
theorem witness_IllegalWordFaults_opcode :
    EngineTurn (running 0x09000000) ∧ captureDue (running 0x09000000) = false ∧ (running 0x09000000).faultCode = .none ∧
    (running 0x09000000).busy = true ∧ ∀ r ∈ opcodeTable, (running 0x09000000).curCmd &&& r.mask ≠ r.value :=
  ⟨.inl rfl, by decide⟩
theorem witness_IllegalWordFaults_unused_field :
    EngineTurn { running 0x20040100 with inputs := [.engine] } ∧
    captureDue { running 0x20040100 with inputs := [.engine] } = false ∧ (running 0x20040100).faultCode = .none ∧
    (running 0x20040100).busy = true ∧ ∀ r ∈ opcodeTable, (running 0x20040100).curCmd &&& r.mask ≠ r.value :=
  ⟨.inr rfl, by decide⟩
theorem witness_CaptureRunsFirst :
    EngineTurn { node with irqPending := true } ∧ captureDue { node with irqPending := true } = true := ⟨.inl rfl, by decide⟩
theorem witness_EnvironmentMoves_frame :
    ({ node with inputs := [.frame 0 [3, 2, 1, 0x40]] } : State).inputs = .frame 0 [3, 2, 1, 0x40] :: [] ∧
    decodeFrame [3, 2, 1, 0x40] = .ok (.frameDataReqack ⟨3, 2, 1, 0, []⟩) ∧ (0 : Byte) = node.chip.netId ∧
    (1 : Byte) ≠ node.chip.netId := by decide
/-- In TX with a frame loaded, the last tick before the clock wraps. -/
def transmitting (moves : List Input) : State :=
  { atPhase 0x10020001 .txSent .tx with
    inputs := moves, clock := 0xFFFFFFFF, dio0Map := true
    chip := { State.reset.chip with opMode := .tx, txLoaded := true, txFrame := [3, 255, 1, 0] } }
theorem witness_EnvironmentMoves_packet_sent :
    (transmitting [.packetSent]).inputs = .packetSent :: [] ∧
    ((transmitting [.packetSent]).chip.opMode = (transmitting [.packetSent]).chipMode ∧
      (transmitting [.packetSent]).chipMode = .tx ∧ (transmitting [.packetSent]).chip.txLoaded = true) ∧
    (node.chip.opMode = node.chipMode ∧ node.chipMode ≠ .tx) ∧
    ((atPhase 0 .txSent .tx).chip.opMode = (atPhase 0 .txSent .tx).chipMode ∧
      (atPhase 0 .txSent .tx).chip.txLoaded = false) ∧
    ({ node with chip := { node.chip with opMode := .tx } } : State).chip.opMode ≠ node.chipMode := by decide
theorem witness_EnvironmentMoves_tick : (transmitting [.tick]).inputs = .tick :: [] ∧
    (transmitting [.tick]).clock.toNat = 2 ^ 32 - 1 := by decide
theorem witness_EnvironmentMoves_bring_up : (transmitting [.bringUp]).inputs = .bringUp :: [] := by decide
theorem witness_RisingEdgeLatches :
    dio0 (inRx node) = false ∧ dio0 (withFrame [3, 2, 1, 0] node) = true := by decide
theorem witness_HostRegisterRules :
    ({ node with faultCode := .busy } : State).faultCode ≠ .none ∧ (running 0).faultCode = .none ∧ (running 0).busy = true ∧
    node.faultCode = .none ∧ node.busy = false := by decide
theorem witness_HostAccessStep :
    ¬((16 : Nat) = 32 ∧ 0 % 4 = 0 ∧ 0 ≤ 0x1C) ∧ ¬((32 : Nat) = 32 ∧ 0x1D % 4 = 0 ∧ 0x1D ≤ 0x1C) ∧
    ¬((32 : Nat) = 32 ∧ 0x20 % 4 = 0 ∧ 0x20 ≤ 0x1C) ∧ (0x1C : Nat) = 4 * (7 : Fin 8).val ∧ (0 : Nat) = 4 * (0 : Fin 8).val :=
  by decide
theorem witness_StatusFields : 4 < (5 : Byte).toNat := by decide
theorem witness_DecodeChecksInOrder :
    (running 0).phase = .start ∧ (running 0).initDone = true ∧ State.reset.phase = .start ∧ State.reset.initDone = false ∧
    isCommand .sleep = true ∧ isInit .sleep = false ∧ 4 < (5 : Byte).toNat ∧ 31 < (32 : Byte).toNat ∧
    61 ≤ (61 : Byte).toNat ∧ (60 : Byte).toNat < 61 := by decide
theorem witness_DecodeChecksInOrder_slot : (inRx (running 0)).phase = .start ∧ (inRx (running 0)).initDone = true ∧
    (inRx (running 0)).mode = .rx := by decide
theorem witness_DecodeChecksInOrder_range :
    65536 < ({ running 0 with argPtr := 0xFFFD, argLen := 4 } : State).argPtr.toNat +
      min ({ running 0 with argPtr := 0xFFFD, argLen := 4 } : State).argLen.toNat 61 ∧
    65536 < ({ running 0 with argPtr := 0xFFF1 } : State).argPtr.toNat + 16 ∧ (running 0).mode ≠ .rx := by decide
theorem witness_InitResult : State.reset.initDone = false ∧ (254 : Byte) ≠ 255 ∧ State.reset.mode = .standby := by decide
theorem witness_ConfigurationResults : node.initDone = true ∧ (31 : Byte).toNat ≤ 31 ∧
    frequencyAnswer (answering true 0 node) = 0x3689CAC0 := by decide
theorem witness_SetEncryptionKeyResult :
    node.initDone = true ∧ ({ node with argPtr := 0xFFF0 } : State).argPtr.toNat + 16 ≤ 65536 ∧
    (List.replicate 16 (0 : Byte)).length = 16 ∧ ∀ i : Fin 16, (List.replicate 16 (0 : Byte))[i]? =
      some (memRead ({ node with argPtr := 0xFFF0 } : State).hostMem (0xFFF0 + i.val)) := by decide
theorem witness_SetModeTransition :
    node.mode ≠ .tx ∧ node.initDone = true ∧ modeOfCode 4 = some .tx ∧ node.mode ≠ .sleep ∧ node.phase = .start := by decide
theorem witness_ModeIdempotence : node.initDone = true ∧ node.phase = .start ∧ modeOfCode 1 = some .standby ∧
    node.mode = .standby ∧ (atPhase 0 .start .sleep).mode = .sleep := by decide
theorem witness_SetModeWakes_first : modeOfCode 3 = some .rx ∧ Mode.rx ≠ .sleep ∧
    (atPhase 0 .start .sleep).initDone = true ∧ (atPhase 0 .start .sleep).phase = .start ∧
    (atPhase 0 .start .sleep).mode = .sleep := by decide
theorem witness_SetModeWakes_waits :
    (answering false 0 (atPhase 0 (.wake .rx .finish) .sleep)).phase = .wake .rx .finish ∧
    modeReadyAnswer (answering false 0 (atPhase 0 (.wake .rx .finish) .sleep)) = false ∧
    ¬ReadyBoundReached (answering false 0 (atPhase 0 (.wake .rx .finish) .sleep)) :=
  ⟨rfl, rfl, fun ⟨_, h, hb⟩ => by cases h; exact absurd hb (by decide)⟩
theorem witness_SetModeWakes_ready : (wakes 0 .rx .finish).phase = .wake .rx .finish ∧
    modeReadyAnswer (wakes 0 .rx .finish) = true := by decide
theorem witness_SetModeWakes_bound : ReadyBoundReached (atBound (atPhase 0 (.wake .rx .finish) .sleep)) :=
  ⟨100, rfl, by decide⟩
theorem witness_WriteFrameResult :
    node.initDone = true ∧ ({ node with argPtr := 0xFFFC, argLen := 4 } : State).argPtr.toNat +
      min ({ node with argPtr := 0xFFFC, argLen := 4 } : State).argLen.toNat 61 ≤ 65536 ∧
    ∀ i : Nat, i < ([0, 0, 0, 0] : List Byte).length →
      ([0, 0, 0, 0] : List Byte)[i]? = some (memRead node.hostMem (0xFFFC + i)) := by decide
theorem witness_OversizedPayloadIsTruncated :
    61 < ({ node with argLen := 62 } : State).argLen.toNat ∧ ({ node with argPtr := 65475 } : State).argPtr.toNat + 61 ≤ 65536 ∧
    node.initDone = true ∧ (answering true 0 (atPhase 0 .txReady .standby)).phase = .txReady ∧
    modeReadyAnswer (answering true 0 (atPhase 0 .txReady .standby)) = true := by decide
theorem witness_ReceiveBeginResult : node.initDone = true ∧ node.phase = .start ∧ node.mode ≠ .sleep ∧
    (inRx node).mode = .rx ∧ node.mode ≠ .rx := by decide
theorem witness_PollReceivedResult : node.initDone = true ∧ node.phase = .start ∧ node.inIsr = false ∧
    (inRx (holdingPing node)).mode = .rx ∧ (inRx (holdingPing node)).slot.frameLen ≠ 0 ∧ (inRx node).mode = .rx ∧
    (inRx node).slot.frameLen = 0 ∧ node.mode ≠ .rx ∧ node.mode ≠ .sleep := by decide
theorem witness_SlotAccessorResults : node.initDone = true ∧ node.mode ≠ .rx ∧ (60 : Byte).toNat < 61 := by decide
theorem witness_BroadcastIsNeverAcked :
    (withFrame [3, 255, 1, 0x40] node).mode = .rx ∧ (withFrame [3, 255, 1, 0x40] node).chip.payloadReady = true ∧
    (withFrame [3, 255, 1, 0x40] node).chip.rxFifo = 3 :: 255 :: 1 :: 0x40 :: [] ∧
    (∃ u, exec .capture (withFrame [3, 255, 1, 0x40] node) = .next u) ∧ Mode.standby ≠ .rx :=
  ⟨rfl, rfl, rfl, ⟨_, rfl⟩, by decide⟩
theorem witness_SpuriousCapture : node.mode ≠ .rx ∧ (inRx node).chip.payloadReady = false := by decide
theorem witness_CaptureAccepts_shortest :
    (withFrame [3, 255, 1, 0xC0] node).mode = .rx ∧ (withFrame [3, 255, 1, 0xC0] node).chip.payloadReady = true ∧
    (3 : Nat) = min (3 : Byte).toNat (rxLenClamp node) ∧ 3 ≤ 3 ∧ 0 = 3 - 3 ∧ (255 : Byte) = 255 := by decide
theorem witness_CaptureAccepts_clamped :
    (withFrame [255, 2, 1, 0, 5] node).chip.rxFifo = 255 :: 2 :: 1 :: 0 :: [5] ∧
    (66 : Nat) = min (255 : Byte).toNat (rxLenClamp node) ∧ 63 = 66 - 3 ∧ (2 : Byte) = node.ownAddr := by decide
theorem witness_CaptureRejects :
    (withFrame [7, 9, 3, 0] node).mode = .rx ∧ (withFrame [7, 9, 3, 0] node).chip.payloadReady = true ∧
    node.promisc = false ∧ (9 : Byte) ≠ node.ownAddr ∧ (9 : Byte) ≠ 255 ∧ (2 : Byte).toNat < 3 := by decide
theorem witness_CaptureRaisesNoEdge : ∃ t, exec .capture (withFrame [7, 9, 3, 0] node) = .next t := ⟨_, rfl⟩
theorem witness_FrameArrivalResults :
    (inRx node).chip.opMode = (inRx node).chipMode ∧ (inRx node).chipMode = .rx ∧ (inRx node).chip.payloadReady = false ∧
    node.chip.opMode = node.chipMode ∧ node.chipMode ≠ .rx ∧
    (withFrame [] node).chip.opMode = (withFrame [] node).chipMode ∧ (withFrame [] node).chip.payloadReady = true ∧
    ({ node with chip := { node.chip with opMode := .rx } } : State).chip.opMode ≠ node.chipMode := by decide
theorem witness_FrameClassSetsFlags :
    (inRx node).mode = .rx ∧ (inRx node).chipMode = .rx ∧ (inRx node).chip.opMode = .rx ∧
    (inRx node).chip.payloadReady = false ∧ 3 ≤ (3 : Byte).toNat ∧ (2 : Byte) = (inRx node).ownAddr ∧
    ∃ t u, exec (.frameAckReqack ⟨3, 2, 1, 1, []⟩) (inRx node) = .next t ∧ exec .capture t = .next u :=
  ⟨rfl, rfl, rfl, rfl, by decide, rfl, _, _, rfl, rfl⟩
theorem witness_SecondFrameOverwrites :
    (⟨63, 2, 3, 0, List.replicate 60 7⟩ : FrameBody).complete = true ∧ (63 : Byte).toNat ≤ min (rxLenClamp node) 63 ∧
    ∃ t u, exec (.frameData ⟨63, 2, 3, 0, List.replicate 60 7⟩) (inRx (holdingPing node)) = .next t ∧
      exec .capture t = .next u := ⟨by decide, by decide, _, _, rfl, rfl⟩
theorem witness_CanSendResult :
    node.initDone = true ∧ (inRx node).mode = .rx ∧ (inRx node).slot.frameLen = 0 ∧
    (rssiAnswer (answering true (-91) (inRx node))).toInt < (inRx node).params.csmaThreshold.toInt ∧
    (inRx node).params.csmaThreshold.toInt ≤ (rssiAnswer (answering true (-90) (inRx node))).toInt ∧ node.mode ≠ .rx ∧
    (inRx (holdingPing node)).slot.frameLen ≠ 0 := by decide
theorem witness_AwaitClearChannelUnits_test :
    node.initDone = true ∧ node.phase = .start ∧ (atPhase 0 .csmaTest .rx).phase = .csmaTest ∧
    canSendResult (answering true (-91) (atPhase 0 .csmaTest .rx)) = true ∧
    canSendResult (answering true (-90) (atPhase 0 .csmaTest .rx)) = false ∧
    (atPhase 0 .csmaTest .rx).argTmo ≤ (atPhase 0 .csmaTest .rx).clock - (atPhase 0 .csmaTest .rx).work.tCsma ∧
    ¬(1 : Word) ≤ (atPhase 0 .csmaTest .rx).clock - (atPhase 0 .csmaTest .rx).work.tCsma := by decide
theorem witness_AwaitClearChannelUnits_poll :
    (atPhase 0 .csmaPoll .rx).phase = .csmaPoll ∧ (atPhase 0 .csmaPoll .rx).mode = .rx ∧
    (atPhase 0 .csmaPoll .rx).slot.frameLen = 0 ∧ (holdingPing (atPhase 0 .csmaPoll .rx)).slot.frameLen ≠ 0 ∧
    (atPhase 0 .csmaPoll .standby).mode ≠ .rx ∧ (atPhase 0 .csmaPoll .standby).mode ≠ .sleep := by decide
theorem witness_ChannelWaitIsAdvisory :
    (atPhase 0 .csmaEnter .rx).phase = .csmaEnter ∧ (atPhase 0 .csmaTest .rx).phase = .csmaTest ∧
    canSendResult (answering true (-91) (atPhase 0 .csmaTest .rx)) = true ∧
    canSendResult (answering true (-90) (atPhase 0 .csmaTest .rx)) = false ∧
    (atPhase 0 .txEnter .standby).phase = .txEnter ∧ (atPhase 0 .txEnter .standby).mode ≠ .sleep := by decide
theorem witness_ChannelWaitIsAdvisory_poll :
    (atPhase 0 .csmaPoll .rx).phase = .csmaPoll ∧ (atPhase 0 .csmaPoll .rx).mode = .rx ∧
    (atPhase 0 .csmaPoll .rx).slot.frameLen = 0 ∧ (holdingPing (atPhase 0 .csmaPoll .rx)).slot.frameLen ≠ 0 ∧
    (atPhase 0 .csmaPoll .standby).mode ≠ .rx ∧ (atPhase 0 .csmaPoll .standby).mode ≠ .sleep := by decide
theorem witness_SleepingRadioWakes_enters :
    ((atPhase 0 .start .sleep).mode = .sleep ∧ (atPhase 0 .start .sleep).initDone = true ∧
      (atPhase 0 .start .sleep).phase = .start) ∧
    ((atPhase 0 .csmaPoll .sleep).mode = .sleep ∧ (atPhase 0 .csmaPoll .sleep).phase = .csmaPoll) ∧
    (({ atPhase 0 .ackWait .sleep with argTmo := 1 } : State).phase = .ackWait ∧
      ¬(1 : Word) ≤ (atPhase 0 .ackWait .sleep).clock - (atPhase 0 .ackWait .sleep).work.tAck) ∧
    ((atPhase 0 .txEnter .sleep).mode = .sleep ∧ (atPhase 0 .txEnter .sleep).phase = .txEnter) := by decide
theorem witness_SleepingRadioWakes_ends :
    ((wakes 0 .rx .finish).phase = .wake .rx .finish ∧ modeReadyAnswer (wakes 0 .rx .finish) = true) ∧
    ((wakes 0 .rx .csma).phase = .wake .rx .csma ∧ modeReadyAnswer (wakes 0 .rx .csma) = true) ∧
    ((wakes 0 .rx .ackPoll).phase = .wake .rx .ackPoll ∧ modeReadyAnswer (wakes 0 .rx .ackPoll) = true) ∧
    ((wakes 0 .standby .txStart).phase = .wake .standby .txStart ∧ modeReadyAnswer (wakes 0 .standby .txStart) = true) := by
  decide
/-- A poll of a mode-ready wait one millisecond before its bound, the chip not ready. -/
def beforeBound (s : State) : State := { answering false 0 s with clock := 99 }
theorem beforeBound_not_reached : ¬ReadyBoundReached (beforeBound node) :=
  fun ⟨_, h, hb⟩ => by cases h; exact absurd hb (by decide)
theorem witness_SleepingRadioWakes_waits :
    (beforeBound (atPhase 0 (.wake .standby .txStart) .sleep)).phase = .wake .standby .txStart ∧
    modeReadyAnswer (beforeBound (atPhase 0 (.wake .standby .txStart) .sleep)) = false ∧
    ¬ReadyBoundReached (beforeBound (atPhase 0 (.wake .standby .txStart) .sleep)) :=
  ⟨rfl, rfl, beforeBound_not_reached⟩
theorem witness_TransmitUnit_waits :
    (beforeBound (atPhase 0 .txReady .standby)).phase = .txReady ∧
    modeReadyAnswer (beforeBound (atPhase 0 .txReady .standby)) = false ∧
    ¬ReadyBoundReached (beforeBound (atPhase 0 .txReady .standby)) := ⟨rfl, rfl, beforeBound_not_reached⟩
theorem witness_TransmitCommandsStart_retry : (atPhase 0x11020200 .retry .standby).phase = .retry := by decide
theorem witness_TransmitCommandsStart :
    (withPing node).initDone = true ∧ (withPing node).phase = .start ∧ (withPing node).mode ≠ .rx ∧
    (withPing node).argPtr.toNat + min (withPing node).argLen.toNat 61 ≤ 65536 := by decide
theorem witness_TransmitUnit :
    (answering true 0 (withPing (atPhase 0 .txReady .standby))).phase = .txReady ∧
    (answering true 0 (withPing (atPhase 0 .txReady .standby))).mode = .standby ∧
    modeReadyAnswer (answering true 0 (withPing (atPhase 0 .txReady .standby))) = true ∧
    (withPing (atPhase 0 .txReady .standby)).argPtr.toNat + min (withPing (atPhase 0 .txReady .standby)).argLen.toNat 61 ≤ 65536 ∧
    ([0x50, 0x49, 0x4E, 0x47] : List Byte).length = min (withPing (atPhase 0 .txReady .standby)).argLen.toNat 61 ∧
    ∀ k : Nat, k < ([0x50, 0x49, 0x4E, 0x47] : List Byte).length → ([0x50, 0x49, 0x4E, 0x47] : List Byte)[k]? =
      some (memRead (withPing (atPhase 0 .txReady .standby)).hostMem (0x100 + k)) := by decide
theorem witness_TransmitUnit_bound : ReadyBoundReached (atBound (withPing (atPhase 0 .txReady .standby))) :=
  ⟨100, rfl, by decide⟩
theorem witness_TransmitEnds :
    (atPhase 0 .txSent .tx).phase = .txSent ∧ (atPhase 0 .txSent .tx).mode = .tx ∧
    (atPhase 0 .txSent .tx).params.txTimeout ≤ (1000 : Word) - (atPhase 0 .txSent .tx).work.tTx ∧
    (atPhase 0 .txSent .tx).chip.packetSent = false ∧
    ¬(atPhase 0 .txSent .tx).params.txTimeout ≤ (999 : Word) - (atPhase 0 .txSent .tx).work.tTx := by decide
theorem witness_AckWaitUnits_deadline :
    (atPhase 0 .ackWait .rx).phase = .ackWait ∧
    (atPhase 0 .ackWait .rx).argTmo ≤ (atPhase 0 .ackWait .rx).clock - (atPhase 0 .ackWait .rx).work.tAck ∧
    ({ resetWork with attempt := 256 } : Work).attempt.toNat = (255 : Byte).toNat + 1 ∧
    ({ resetWork with attempt := 1 } : Work).attempt.toNat ≠ (1 : Byte).toNat + 1 := by decide
theorem witness_AckWaitUnits_before :
    ¬({ atPhase 0 .ackWait .rx with argTmo := 1 } : State).argTmo ≤
      (atPhase 0 .ackWait .rx).clock - (atPhase 0 .ackWait .rx).work.tAck ∧
    (atPhase 0 .ackWait .rx).mode = .rx ∧ (holdingPing (atPhase 0 .ackWait .rx)).slot.frameLen ≠ 0 ∧
    (((3 : Byte) = 2 ∨ (255 : Byte) = 255) ∧ ({ resetSlot with ackRcvd := true } : Slot).ackRcvd = true) ∧
    ¬((holdingPing node).slot.ackRcvd = true) ∧ (atPhase 0 .ackWait .rx).slot.frameLen = 0 := by decide
theorem witness_AckWaitUnits_rearms :
    (atPhase 0x11020200 .ackWait .standby).phase = .ackWait ∧
    ¬({ atPhase 0x11020200 .ackWait .standby with argTmo := 1 } : State).argTmo ≤
      (atPhase 0x11020200 .ackWait .standby).clock - (atPhase 0x11020200 .ackWait .standby).work.tAck ∧
    (atPhase 0x11020200 .ackWait .standby).mode ≠ .rx ∧ (atPhase 0x11020200 .ackWait .standby).mode ≠ .sleep := by decide
theorem witness_AckReceivedResult : node.initDone = true ∧ node.phase = .start ∧ (inRx (holdingPing node)).mode = .rx ∧
    (inRx (holdingPing node)).slot.frameLen ≠ 0 ∧ (inRx node).mode = .rx ∧ (inRx node).slot.frameLen = 0 ∧
    node.mode ≠ .rx ∧ node.mode ≠ .sleep := by decide
theorem witness_SendAckKeepsSavedFields :
    NoReset (atPhase 0x12000000 .csmaTest .standby) ∧
    decodeCommand (atPhase 0x12000000 .csmaTest .standby).curCmd = .ok .sendAck ∧
    (atPhase 0x12000000 .csmaTest .standby).phase ≠ .start ∧ (atPhase 0x12000000 .csmaTest .standby).busy = true ∧
    ∃ t, step (atPhase 0x12000000 .csmaTest .standby) = .next t :=
  ⟨by unfold NoReset; decide, by decide, by decide, by decide, _, rfl⟩
/-- The node that answers, about to write its ACK to node 1. -/
def replier : State :=
  answering true 0 { atPhase 0x12000000 .txReady .standby with work := { resetWork with savedSender := 1 } }
/-- The node that waits for the ACK. -/
def waiter : State := inRx { node with ownAddr := 1 }
theorem witness_AckFrameMatchesAtSender :
    (replier.phase = .txReady ∧ replier.mode = .standby ∧ modeReadyAnswer replier = true ∧
      waiter.ownAddr = replier.work.savedSender ∧ waiter.initDone = true ∧ waiter.phase = .start ∧
      pipeline waiter = .armed ∧ waiter.chipMode = .rx ∧ waiter.chip.opMode = .rx ∧ waiter.chip.payloadReady = false) ∧
    ∃ b' a1 a2 a3, exec .sendAck replier = .next b' ∧ frameUnit waiter.chip.netId b'.chip.txFrame waiter = .next a1 ∧
      exec .capture a1 = .next a2 ∧ exec (.ackReceived replier.ownAddr) a2 = .next a3 :=
  ⟨by decide, _, _, _, _, rfl, rfl, rfl, rfl⟩
theorem witness_WrittenFrameIsCaptured :
    (64 ≤ rxLenClamp waiter ∧ (255 : Byte) = 255 ∧ waiter.mode = .rx ∧ waiter.chipMode = .rx ∧
      waiter.chip.opMode = .rx ∧ waiter.chip.payloadReady = false ∧ (withPing node).initDone = true ∧
      (withPing node).argPtr.toNat + min (withPing node).argLen.toNat 61 ≤ 65536) ∧
    ∃ b' a1 a2, exec (.writeFrame 255 true false) (withPing node) = .next b' ∧
      frameUnit waiter.chip.netId b'.chip.txFrame waiter = .next a1 ∧ exec .capture a1 = .next a2 :=
  ⟨by decide, _, _, _, rfl, rfl, rfl⟩
theorem witness_ExecFrame : (∃ t, exec .sleep node = .next t) ∧ (∃ t, exec .sendAck replier = .next t) ∧
    ∃ t, exec (.setMode 5) node = .next t := ⟨⟨_, rfl⟩, ⟨_, rfl⟩, ⟨_, rfl⟩⟩
theorem witness_HostStoreReadsBack :
    ({ withPing node with inputs := [.hostMemWrite 0xFFFF 0] } : State).inputs = .hostMemWrite 0xFFFF 0 :: [] ∧
    (withPing node).busy = false ∧ Memory.wf (withPing node).hostMem = true := by decide
theorem witness_ResetEventResult :
    ({ inRx node with faultCode := .slotRace, inputs := [.reset, .tick] } : State).inputs = .reset :: [.tick] := by decide
theorem witness_WindowStaysOpen : WindowOpen (running 0x10020001) ∧ ∃ t, step (running 0x10020001) = .next t :=
  ⟨⟨rfl, rfl⟩, _, rfl⟩
theorem witness_SequencerStaysLegal :
    SequencerLegal (atPhase 0x11020200 .ackWait .rx) ∧ ∃ t, step (atPhase 0x11020200 .ackWait .rx) = .next t :=
  ⟨⟨by decide, fun _ => ⟨.sendWithRetry 2 2, by decide, by decide, by decide⟩⟩, _, rfl⟩
theorem witness_StepNeverFaults : SequencerLegal replier :=
  ⟨by decide, fun _ => ⟨.sendAck, by decide, by decide, by decide⟩⟩
theorem witness_ModesStayAgreed :
    SequencerLegal (wakes 0x20030000 .rx .finish) ∧ ModesAgree (wakes 0x20030000 .rx .finish) ∧
    ∃ t, step (wakes 0x20030000 .rx .finish) = .next t :=
  ⟨⟨by decide, fun _ => ⟨.setMode 3, by decide, by decide, by decide⟩⟩, ⟨⟨rfl, rfl, by decide⟩, by decide, by decide⟩,
    _, rfl⟩
/-- The last of 256 attempts, with B = 255, is at its ACK wait. -/
def lastAttempt : State := { atPhase 0x1102FF00 .ackWait .rx with work := { resetWork with attempt := 256 } }
theorem witness_RetriesStayBounded : RetryBounded lastAttempt ∧ ∃ t, step lastAttempt = .next t := by
  refine ⟨fun t r h => ?_, _, rfl⟩
  have hd : decodeCommand lastAttempt.curCmd = .ok (.sendWithRetry 2 255) := by decide
  rw [hd] at h
  cases h
  exact ⟨by decide, by decide⟩
/-- A packet sent at the last poll of a transmission, which ends TransmitFrame, and the window between two attempts. -/
theorem witness_RetriesStayBounded_attempt :
    let s : State := { atPhase 0x1102FF00 .txSent .tx with
      work := { resetWork with attempt := 255 }, chip := { resetChip with opMode := .tx, packetSent := true } }
    decodeCommand s.curCmd = .ok (.sendWithRetry 2 255) ∧ s.busy = true ∧ s.phase ≠ .start ∧ NoReset s ∧
    (∃ t, step s = .next t ∧ t.phase = .ackWait) ∧ (atPhase 0x1102FF00 .retry .standby).phase ≠ .start ∧
    ∃ t, step (atPhase 0x1102FF00 .retry .standby) = .next t :=
  ⟨by decide, rfl, by decide, by unfold NoReset; decide, ⟨_, rfl, rfl⟩, by decide, _, rfl⟩
theorem witness_AirStaysLegal :
    AirLegal { replier with chip := { replier.chip with txLoaded := true, txFrame := [3, 2, 1, 0x80], air := [[3, 9, 1, 0]] } } ∧
    ∃ t, step replier = .next t := ⟨by unfold AirLegal; decide, _, rfl⟩
theorem witness_SlotStaysLegal : SlotLegal (holdingPing node) ∧ SlotLegal node ∧ ∃ t, step (holdingPing node) = .next t :=
  ⟨.inr (by decide), .inl (by decide), _, rfl⟩
theorem witness_OwnAddressIsImmutable : OwnAddrLegal node ∧ node.initDone = true ∧ NoReset node ∧ ∃ t, step node = .next t :=
  ⟨by unfold OwnAddrLegal; decide, rfl, by unfold NoReset; decide, _, rfl⟩
theorem witness_LatchedFaultHalts :
    ({ running 0x09000000 with faultCode := .illegalCommand } : State).faultCode ≠ .none ∧
    NoReset { running 0x09000000 with faultCode := .illegalCommand, inputs := [.hostWrite 32 0 0] } ∧
    ∃ t, step { running 0x09000000 with faultCode := .illegalCommand, inputs := [.hostWrite 32 0 0] } = .next t :=
  ⟨by decide, by unfold NoReset; decide, _, rfl⟩
theorem witness_RunningCommandIsLatched :
    (running 0x10020001).busy = true ∧ NoReset (running 0x10020001) ∧ ∃ t, step (running 0x10020001) = .next t :=
  ⟨rfl, by unfold NoReset; decide, _, rfl⟩

end Sys2Proof.Tests
end

section
/-! SUPPORT. The rule for invariants of every step: the registers of the engine a move of ENV leaves alone, and what is
left to show of an invariant over them. -/

namespace Sys2Proof.Machine

/-- Every engine register but IRQ_PENDING is the same: only what HOST and ENV hold may differ (R68). -/
def EngineSame (s t : State) : Prop :=
  t = { s with
    irqPending := t.irqPending, chip := t.chip, clock := t.clock, hostMem := t.hostMem, inputs := t.inputs
    hostData := t.hostData }

/-- A property of the engine's registers alone. -/
def EngineOnly (P : State → Prop) : Prop := ∀ s t, EngineSame s t → P s → P t

/-- The edge latch writes IRQ_PENDING alone. -/
theorem engineSame_latchEdge (s u : State) : EngineSame u (latchEdge s u) := by
  rw [latchEdge_eq]; rfl

/-- A property of the engine's registers is kept by a step when the five moves that write them keep it: a capture, a
unit of the running command, a fault, a host write while idle, and the reset. -/
theorem ensures_step {P : State → Prop} (hP : EngineOnly P) {s : State} (hs : P s)
    (capture : ∀ s u, P s → execCapture s = .next u → P u)
    (command : ∀ s i u, P s → s.busy = true → decodeCommand s.curCmd = .ok i → exec i s = .next u → P u)
    (raise : ∀ s c, P s → s.busy = true → P (raiseFault c s))
    (write : ∀ s r v, P s → s.busy = false → P (writeIdle r v s))
    (reset : ¬NoReset s → ∀ s, P (resetEvent s)) :
    Ensures (step s) P := by
  intro t ht
  have hm : P (afterMove s) := hP s _ rfl hs
  have latch : ∀ u, P u → P (latchEdge (afterMove s) u) := fun u => hP u _ (engineSame_latchEdge _ u)
  have keep : ∀ u, EngineSame s u → P u := fun u h => hP s u h hs
  rcases step_cases ht with ⟨-, hu⟩ | ⟨-, -, v, r, -, -, rfl⟩ | ⟨-, -, r, -, -, rfl⟩ | ⟨a, b, -, -, rfl⟩ |
    ⟨hr, rfl⟩ | ⟨-, rfl⟩ | ⟨-, bytes, -, rfl | ⟨-, -, -, rfl⟩⟩ | ⟨-, rfl | ⟨-, -, -, rfl⟩⟩ | ⟨-, rfl⟩
  · rcases engineUnit_cases hu with ⟨-, u, hx, rfl⟩ | ⟨-, -, hb, ⟨i, u, hd, hx, rfl⟩ | ⟨e, -, rfl⟩⟩ | ⟨-, -, rfl⟩
    · exact latch u (capture _ u hm hx)
    · exact latch u (command _ i u hm hb hd hx)
    · exact latch _ (raise _ _ hm hb)
    · exact hm
  · refine latch _ ?_
    rcases hostWrite_cases r v (afterMove s) with ⟨-, h⟩ | ⟨-, hb, h⟩ | ⟨-, hb, h⟩ <;> rw [h]
    · exact hm
    · exact raise _ _ hm hb
    · exact write _ r v hm hb
  · exact keep _ rfl
  · exact keep _ rfl
  · exact reset (fun hn => hn hr) _
  · exact keep _ rfl
  · exact hm
  · exact latch _ (keep _ rfl)
  · exact hm
  · exact latch _ (keep _ rfl)
  · exact keep _ rfl

/-- A latched unit ends in a fault exactly when the unit does. -/
theorem latched_eq_fault {s : State} {o : Result} {r : Fault} (h : latched s o = .fault r) : o = .fault r := by
  cases o with
  | next u => simp at h
  | fault r' => exact h
  | refused r' => simp [latched] at h

/-- The capture ends in no fault of the model. -/
theorem execCapture_faultFree (s : State) : FaultFree (execCapture s) := by
  intro r
  rcases execCapture_cases s with ⟨-, -, h⟩ | ⟨-, h⟩ <;> simp [h]

/-- The arrival of a frame ends in no fault of the model. -/
theorem frameArrives_faultFree (bytes : List Byte) (s : State) : FaultFree (frameArrives bytes s) := by
  intro r
  rcases frameArrives_cases bytes s with ⟨-, -, -, h⟩ | ⟨-, -, h⟩ | ⟨-, h⟩ <;> simp [h]

/-- Packet sent ends in no fault of the model. -/
theorem packetSentEvent_faultFree (s : State) : FaultFree (packetSentEvent s) := by
  intro r
  rcases packetSentEvent_cases s with ⟨-, -, -, h⟩ | ⟨-, -, h⟩ | ⟨-, h⟩ <;> simp [h]

/-- When the engine's own unit ends in a fault of the model, it is a unit of the running command (R308). -/
theorem exec_of_engineUnit_fault {s : State} {r : Fault} (h : engineUnit s = .fault r) :
    s.busy = true ∧ ∃ i, decodeCommand s.curCmd = .ok i ∧ exec i s = .fault r := by
  unfold engineUnit at h
  split at h
  · exact absurd (latched_eq_fault h) (execCapture_faultFree s r)
  · split at h
    · next hb =>
      have hu := latched_eq_fault h
      unfold appUnit at hu
      split at hu
      · next i hd => exact ⟨hb.2, i, hd, hu⟩
      · simp at hu
    · simp at h

/-- When a move ends in a fault of the model, it is the engine's. -/
theorem engineUnit_of_inputUnit_fault {i : Input} {s : State} {r : Fault} (h : inputUnit i s = .fault r) :
    engineUnit s = .fault r := by
  cases i with
  | engine => exact h
  | hostWrite width offset v => simp only [inputUnit] at h; split at h <;> simp at h
  | hostRead width offset => simp only [inputUnit] at h; split at h <;> simp at h
  | hostMemWrite a b => simp only [inputUnit, hostStore] at h; split at h <;> simp at h
  | reset => simp [inputUnit] at h
  | bringUp => simp [inputUnit] at h
  | frame net bytes =>
    have hu := latched_eq_fault h
    rw [frameUnit_eq] at hu
    split at hu
    · exact absurd hu (frameArrives_faultFree bytes s r)
    · simp at hu
  | packetSent => exact absurd (latched_eq_fault h) (packetSentEvent_faultFree s r)
  | tick => simp [inputUnit] at h

/-- When a step ends in a fault of the model, it is a unit of the running command. -/
theorem exec_of_step_fault {s : State} {r : Fault} (h : step s = .fault r) :
    ∃ t, EngineSame s t ∧ t.busy = true ∧ ∃ i, decodeCommand t.curCmd = .ok i ∧ exec i t = .fault r := by
  unfold step at h
  split at h
  · exact ⟨s, rfl, exec_of_engineUnit_fault h⟩
  · have hx := exec_of_engineUnit_fault (engineUnit_of_inputUnit_fault h)
    refine ⟨_, ?_, hx⟩
    rfl

end Sys2Proof.Machine
end

section
/-! SUPPORT. The frame of the commands: no unit of a command but INIT writes the command and argument registers, the
identity or the parameters, and the two lengths of the slot are kept or cleared. -/

namespace Sys2Proof.Machine

/-- The registers that no unit of a command but INIT writes. -/
def unitRegisters (s : State) : Params × Word × Word × Byte × BitVec 16 × Word × Word × Byte × Bool :=
  (s.params, s.cmd, s.curCmd, s.argLen, s.argPtr, s.argTmo, s.argFreq, s.ownAddr, s.initDone)

/-- RX_FRAME_LEN and RX_DATA_LEN. -/
def slotLengths (s : State) : Byte × Byte := (s.slot.frameLen, s.slot.dataLen)

/-- The frame of a command's unit: these registers are kept, and the two lengths are kept or cleared. -/
structure Keeps (s t : State) : Prop where
  registers : unitRegisters t = unitRegisters s
  lengths : slotLengths t = slotLengths s ∨ slotLengths t = (0, 0)

/-- An update of other fields, checked by `rfl`. -/
theorem Keeps.plain {s t : State} (hr : unitRegisters t = unitRegisters s := by rfl)
    (hl : slotLengths t = slotLengths s := by rfl) : Keeps s t := ⟨hr, .inl hl⟩

theorem Keeps.refl (s : State) : Keeps s s := .plain

theorem Keeps.trans {s t u : State} (h : Keeps s t) (h' : Keeps t u) : Keeps s u where
  registers := h'.registers.trans h.registers
  lengths := h'.lengths.elim (fun e => e ▸ h.lengths) .inr

theorem Keeps.fields {s t : State} (h : Keeps s t) :
    t.params = s.params ∧ t.cmd = s.cmd ∧ t.curCmd = s.curCmd ∧ t.argLen = s.argLen ∧ t.argPtr = s.argPtr ∧
      t.argTmo = s.argTmo ∧ t.argFreq = s.argFreq ∧ t.ownAddr = s.ownAddr ∧ t.initDone = s.initDone := by
  simpa [unitRegisters] using h.registers

/-! ### Outcomes -/

theorem Ensures.next {u : State} {P : State → Prop} (h : P u) : Ensures (.next u) P :=
  fun _ ht => Host.Outcome.next.inj ht ▸ h

theorem Ensures.fault (r : Fault) (P : State → Prop) : Ensures (.fault r) P := fun _ ht => nomatch ht

/-- Phase 0 keeps the registers when the first segment does (R302, R303). -/
theorem keeps_started {i : Instr} {s : State} {k : State → Result} (hk : Ensures (k s) (Keeps s)) :
    Ensures (started i s k) (Keeps s) := by
  rcases started_cases i s k with ⟨c, -, h⟩ | ⟨-, h⟩ <;> rw [h]
  · exact .next .plain
  · exact hk

/-! ### The shared routines -/

theorem keeps_setModeBus (m : Mode) (s : State) : Keeps s (setModeBus m s) :=
  ⟨by simp [unitRegisters], .inl (by simp [slotLengths])⟩

theorem keeps_setModeNow (m : Mode) (s : State) : Keeps s (setModeNow m s) :=
  ⟨by simp [unitRegisters], .inl (by simp [slotLengths])⟩

/-- ReceiveBegin clears the two lengths (R171). -/
theorem keeps_rearm (s : State) : Keeps s (rearm s) :=
  ⟨by simp [unitRegisters], .inr (by simp [slotLengths, resetSlot])⟩

theorem keeps_setModeThen {m : Mode} {r : Resume} {k : State → State} (s : State) (hk : ∀ t, Keeps t (k t)) :
    Keeps s (setModeThen m r k s) := by
  rcases setModeThen_cases m r k s with ⟨-, -, h⟩ | ⟨-, h⟩ <;> rw [h]
  · exact (keeps_setModeBus m s).trans .plain
  · exact (keeps_setModeNow m s).trans (hk _)

theorem keeps_receiveBeginThen {r : Resume} {k : State → State} (s : State) (hk : ∀ t, Keeps t (k t)) :
    Keeps s (receiveBeginThen r k s) :=
  (keeps_rearm s).trans (keeps_setModeThen _ hk)

theorem keeps_receiveDone {r : Resume} {kTrue kFalse : State → State} (s : State) (hT : ∀ t, Keeps t (kTrue t))
    (hF : ∀ t, Keeps t (kFalse t)) : Keeps s (receiveDone r kTrue kFalse s) := by
  have masked : ∀ b, Keeps s { s with ie := b } := fun _ => .plain
  rcases receiveDone_cases r kTrue kFalse s with ⟨-, -, h⟩ | ⟨-, -, h⟩ | ⟨-, h⟩ <;> rw [h]
  · exact ((masked _).trans (keeps_setModeNow _ _)).trans (hT _)
  · exact (masked _).trans (hF _)
  · exact (masked _).trans (keeps_receiveBeginThen _ hF)

theorem keeps_wakePoll {m : Mode} {k : State → State} (s : State) (hk : ∀ t, Keeps t (k t)) :
    Keeps s (wakePoll m k s) := by
  rcases wakePoll_cases m k s with ⟨-, h⟩ | ⟨-, h⟩ <;> rw [h]
  · exact Keeps.trans .plain (hk _)
  · exact .plain

theorem keeps_canSendEffect (s : State) : Keeps s (canSendEffect s) := by
  have sampled : Keeps s (chipReadRssi s) := .plain
  rcases canSendEffect_cases s with ⟨-, -, h⟩ | ⟨-, -, h⟩ | ⟨-, -, h⟩ <;> rw [h]
  · exact Keeps.refl s
  · exact sampled
  · exact sampled.trans (keeps_setModeNow _ _)

theorem keeps_sendHead (s : State) : Keeps s (sendHead s) := .plain

theorem keeps_toPhase (p : Phase) (s : State) : Keeps s (toPhase p s) := .plain

theorem keeps_finish (s : State) : Keeps s (finish s) := .plain

theorem keeps_finishWith (v : Word) (s : State) : Keeps s (finishWith v s) := .plain

theorem keeps_csmaTestSegment {bound : Word} {done : Bool → State → State} (s : State)
    (hk : ∀ b t, Keeps t (done b t)) : Keeps s (csmaTestSegment bound done s) := by
  have sense := keeps_canSendEffect s
  rcases csmaTestSegment_cases bound done s with ⟨-, h⟩ | ⟨-, -, h⟩ | ⟨-, -, h⟩ <;> rw [h]
  · exact sense.trans (hk _ _)
  · exact sense.trans (hk _ _)
  · exact sense.trans (keeps_toPhase _ _)

theorem keeps_csmaPollSegment (s : State) : Keeps s (csmaPollSegment s) :=
  keeps_receiveDone s (keeps_toPhase _) (keeps_toPhase _)

theorem keeps_writeFrameThen {t : Byte} {rq ar : Bool} {k : State → State} (s : State) (hk : ∀ t, Keeps t (k t)) :
    Ensures (writeFrameThen t rq ar k s) (Keeps s) := by
  rcases writeFrameThen_cases t rq ar k s with ⟨-, h⟩ | ⟨payload, -, h⟩ <;> rw [h]
  · exact .fault _ _
  · exact .next (Keeps.trans .plain (hk _))

theorem Ensures.of_keeps {s t : State} {o : Result} (h : Keeps s t) (ho : Ensures o (Keeps t)) :
    Ensures o (Keeps s) := fun u hu => h.trans (ho u hu)

theorem keeps_transmitReady (x : Transmission) (s : State) : Ensures (transmitReady x s) (Keeps s) := by
  rcases transmitReady_cases x s with ⟨-, h⟩ | ⟨-, h⟩ <;> rw [h]
  · have read : Keeps s (chipReadModeReady s) := .plain
    have mapped : Keeps s (chipSetDio0Map true (chipReadModeReady s)) := read.trans .plain
    exact .of_keeps mapped (keeps_writeFrameThen _ fun t => keeps_setModeThen t fun _ => .plain)
  · exact .next .plain

theorem keeps_transmitSent {x : Transmission} (s : State) (hx : ∀ t, Keeps t (x.after t)) :
    Keeps s (transmitSent x s) := by
  rcases transmitSent_cases x s with ⟨-, h⟩ | ⟨-, h⟩ <;> rw [h]
  · exact Keeps.trans .plain (keeps_setModeThen _ hx)
  · exact .plain

/-- The units of SEND's body (R230, R231). -/
theorem keeps_sendBody {x : Transmission} (s : State) (hx : ∀ t, Keeps t (x.after t)) :
    Ensures (sendBody x s) (Keeps s) := by
  unfold sendBody
  split
  · exact .next .plain
  · exact .next (keeps_csmaTestSegment s fun _ => keeps_toPhase _)
  · exact .next (keeps_csmaPollSegment s)
  · exact .next (keeps_setModeThen s fun _ => .plain)
  · exact keeps_transmitReady x s
  · exact .next (keeps_transmitSent s hx)
  · exact .next (keeps_wakePoll s (keeps_toPhase _))
  · exact .next (keeps_wakePoll s fun _ => .plain)
  · exact .next (keeps_wakePoll s fun _ => .plain)
  · exact .next (keeps_wakePoll s hx)
  · exact .fault _ _

theorem keeps_ackReceivedThen {src : Byte} {r : Resume} {k : Bool → State → State} (s : State)
    (hk : ∀ b t, Keeps t (k b t)) : Keeps s (ackReceivedThen src r k s) :=
  keeps_receiveDone s (fun t => hk _ t) (hk false)

theorem keeps_ackWaitSegment (target retries : Byte) (s : State) : Keeps s (ackWaitSegment target retries s) := by
  rcases ackWaitSegment_cases target retries s with ⟨-, -, h⟩ | ⟨-, -, h⟩ | ⟨-, h⟩ <;> rw [h]
  · exact keeps_finishWith _ s
  · exact keeps_toPhase _ s
  · refine keeps_ackReceivedThen s fun b t => ?_
    cases b
    · exact keeps_toPhase _ t
    · exact keeps_finishWith _ t

/-! ### The commands -/

theorem keeps_slotCommand (i : Instr) (value : Slot → Word) (s : State) : Ensures (slotCommand i value s) (Keeps s) :=
  keeps_started (.next (keeps_finishWith _ s))

theorem keeps_setModeCommand (i : Instr) (m : Mode) (s : State) : Ensures (setModeCommand i m s) (Keeps s) := by
  unfold setModeCommand
  split
  · exact keeps_started (.next (keeps_setModeThen s keeps_finish))
  · exact .next (keeps_wakePoll s keeps_finish)
  · exact .fault _ _

theorem keeps_execSetMode (code : Byte) (s : State) : Ensures (execSetMode code s) (Keeps s) := by
  unfold execSetMode
  split
  · exact keeps_setModeCommand _ _ s
  · exact keeps_started (.next (Keeps.refl s))

theorem keeps_execSetEncryptionKey (key : Bool) (s : State) : Ensures (execSetEncryptionKey key s) (Keeps s) := by
  refine keeps_started ?_
  cases key
  · exact .next .plain
  · cases hk : keyBytes s <;> simp only [if_true]
    · exact .fault _ _
    · exact .next .plain

theorem keeps_execReceiveBegin (s : State) : Ensures (execReceiveBegin s) (Keeps s) := by
  unfold execReceiveBegin
  split
  · exact keeps_started (.next (keeps_receiveBeginThen s keeps_finish))
  · exact .next (keeps_wakePoll s keeps_finish)
  · exact .fault _ _

theorem keeps_execPollReceived (s : State) : Ensures (execPollReceived s) (Keeps s) := by
  unfold execPollReceived
  split
  · exact keeps_started (.next (keeps_receiveDone s (keeps_finishWith _) (keeps_finishWith _)))
  · exact .next (keeps_wakePoll s (keeps_finishWith _))
  · exact .fault _ _

theorem keeps_execAckReceived (src : Byte) (s : State) : Ensures (execAckReceived src s) (Keeps s) := by
  unfold execAckReceived
  split
  · exact keeps_started (.next (keeps_ackReceivedThen s fun _ => keeps_finishWith _))
  · exact .next (keeps_wakePoll s (keeps_finishWith _))
  · exact .fault _ _

theorem keeps_execAwaitClearChannel (s : State) : Ensures (execAwaitClearChannel s) (Keeps s) := by
  unfold execAwaitClearChannel
  split
  · exact keeps_started (.next .plain)
  · exact .next (keeps_csmaTestSegment s fun _ => keeps_finishWith _)
  · exact .next (keeps_csmaPollSegment s)
  · exact .next (keeps_wakePoll s (keeps_toPhase _))
  · exact .fault _ _

theorem keeps_execSend (target : Byte) (reqAck : Bool) (s : State) : Ensures (execSend target reqAck s) (Keeps s) := by
  unfold execSend
  split
  · exact keeps_started (.next (keeps_sendHead s))
  · exact keeps_sendBody s keeps_finish

theorem keeps_execSendAck (s : State) : Ensures (execSendAck s) (Keeps s) := by
  unfold execSendAck
  split
  · exact keeps_started (.next (Keeps.trans .plain (keeps_sendHead (saveSlot s))))
  · exact keeps_sendBody s fun _ => .plain

theorem keeps_execSendWithRetry (target retries : Byte) (s : State) :
    Ensures (execSendWithRetry target retries s) (Keeps s) := by
  unfold execSendWithRetry
  split
  · exact keeps_started (.next (Keeps.trans .plain (keeps_sendHead _)))
  · exact .next (keeps_sendHead s)
  · exact .next (keeps_ackWaitSegment target retries s)
  · exact .next (keeps_wakePoll s (keeps_toPhase _))
  · exact keeps_sendBody s fun _ => .plain

/-- A unit of any command but INIT, at any phase, keeps the registers of `unitRegisters`. -/
theorem keeps_exec {i : Instr} (hc : isCommand i = true) (hi : isInit i = false) (s : State) :
    Ensures (exec i s) (Keeps s) := by
  have done : ∀ (j : Instr) (f : State → State), Keeps s (f s) → Ensures (started j s fun s => .next (f s)) (Keeps s) :=
    fun _ _ h => keeps_started (.next h)
  unfold exec
  cases i with
  | init addr net => simp [isInit] at hi
  | setNetwork net => exact done _ _ .plain
  | setPromiscuous on => exact done _ _ .plain
  | setPowerLevel level => exact done _ _ .plain
  | setFrequency => exact done _ _ .plain
  | getFrequency => exact done _ _ .plain
  | setEncryptionKey key => exact keeps_execSetEncryptionKey key s
  | sleep => exact done _ _ ((keeps_setModeNow _ s).trans (keeps_finish _))
  | send target reqAck => exact keeps_execSend target reqAck s
  | sendWithRetry target retries => exact keeps_execSendWithRetry target retries s
  | sendAck => exact keeps_execSendAck s
  | ackReceived src => exact keeps_execAckReceived src s
  | ackRequested => exact keeps_slotCommand _ _ s
  | pollReceived => exact keeps_execPollReceived s
  | setMode code => exact keeps_execSetMode code s
  | receiveBegin => exact keeps_execReceiveBegin s
  | canSend => exact done _ _ ((keeps_canSendEffect s).trans (keeps_finishWith _ _))
  | awaitClearChannel => exact keeps_execAwaitClearChannel s
  | writeFrame target reqAck ackReply => exact keeps_started (keeps_writeFrameThen s keeps_finish)
  | getSender => exact keeps_slotCommand _ _ s
  | getTarget => exact keeps_slotCommand _ _ s
  | getLength => exact keeps_slotCommand _ _ s
  | getRssi => exact keeps_slotCommand _ _ s
  | getPayloadByte index => exact keeps_slotCommand _ _ s
  | getAckFlags => exact keeps_slotCommand _ _ s
  | capture | frameData f | frameDataReqack f | frameAck f | frameAckReqack f => simp [isCommand, encode] at hc

end Sys2Proof.Machine
end

section
/-! SUPPORT. What INIT and the capture do to the registers that the invariants of the identity, the slot and the modes
read. -/

namespace Sys2Proof.Machine

/-! ### INIT (R270) -/

theorem eq_init_of_isInit {i : Instr} (h : isInit i = true) : ∃ addr net, i = .init addr net := by
  cases i with
  | init addr net => exact ⟨addr, net, rfl⟩
  | _ => simp [isInit] at h

/-- INIT takes the fault of its first failing check, or writes the identity once and for all (R270, R302). -/
theorem execInit_cases (addr net : Byte) (s : State) :
    (∃ c, execInit addr net s = .next (raiseFault c s)) ∨
    (s.initDone = false ∧ addr ≠ 255 ∧ execInit addr net s = .next (initEngine addr net s)) := by
  rcases started_cases (.init addr net) s (fun s => .next (initEngine addr net s)) with ⟨c, -, h⟩ | ⟨hd, h⟩
  · exact .inl ⟨c, h⟩
  · obtain ⟨hi, -, ha, -, -⟩ := decodeFault_eq_none.1 hd
    refine .inr ⟨?_, ?_, h⟩
    · simpa [isInit] using hi
    · simpa [addressOk, Instr.addrLegal, Config.broadcast] using ha

/-- INIT turns the amplifiers off on the high-power variant, in one transaction (R270). -/
theorem initHighPower_cases (s : State) :
    (s.params.hpVariant = true ∧ initHighPower s = chipSetHighPower false s) ∨
    (s.params.hpVariant = false ∧ initHighPower s = s) := by
  unfold initHighPower
  cases s.params.hpVariant <;> simp

/-- INIT up to its SetMode: the identity, the network, the filter, the DIO0 map and the amplifiers (R270). -/
def initBus (addr net : Byte) (s : State) : State :=
  initHighPower (chipSetDio0Map false
    { chipSetSyncNetwork net { s with ownAddr := addr, netId := net } with promisc := false })

/-- INIT is its transactions, SetMode(1), the cleared slot and the end of the command (R270). -/
theorem initEngine_eq (addr net : Byte) (s : State) :
    initEngine addr net s = finish { clearSlot (setModeNow .standby (initBus addr net s)) with initDone := true } := rfl

/-- INIT's transactions, before its SetMode. -/
theorem initBus_fields (addr net : Byte) (s : State) :
    (initBus addr net s).ownAddr = addr ∧ (initBus addr net s).params = s.params ∧
      (initBus addr net s).mode = s.mode ∧ (initBus addr net s).chipMode = s.chipMode ∧
      (initBus addr net s).hpOn = (!s.params.hpVariant && s.hpOn) := by
  unfold initBus
  simp only [chipSetDio0Map_eq, chipSetSyncNetwork_eq]
  rcases initHighPower_cases _ with ⟨hp, h⟩ | ⟨hp, h⟩ <;> rw [h] <;> dsimp only at hp
  · simp [chipSetHighPower_eq, hp]
  · simp [hp]

/-- INIT writes the identity and clears the slot's two lengths (R270, R171). -/
theorem initEngine_fields (addr net : Byte) (s : State) :
    (initEngine addr net s).ownAddr = addr ∧ (initEngine addr net s).initDone = true ∧
      slotLengths (initEngine addr net s) = (0, 0) := by
  obtain ⟨ha, -⟩ := initBus_fields addr net s
  rw [initEngine_eq]
  exact ⟨by simp [ha], rfl, rfl⟩

/-! ### The capture (R175 to R179) -/

/-- The registers that a capture leaves alone and the invariants read: those no unit writes, and the sequencer's own. -/
def captureRegisters (s : State) :
    (Params × Word × Word × Byte × BitVec 16 × Word × Word × Byte × Bool) × Bool × Phase :=
  (unitRegisters s, s.busy, s.phase)

/-- The frame part of a capture leaves them alone. -/
theorem captureRegisters_captureFrame (s : State) : captureRegisters (captureFrame s) = captureRegisters s := by
  rcases captureFrame_cases s with ⟨-, h⟩ | ⟨-, h⟩ <;> rw [h]
  · simp [captureRegisters, unitRegisters, captureAccept_eq]
  · simp [captureRegisters, unitRegisters, captureReject_eq]

/-- After the frame part of a capture the slot holds an accepted frame, whose lengths agree, or nothing (R175, R178). -/
theorem slotLegal_captureFrame (s : State) : SlotLegal (captureFrame s) := by
  rcases captureFrame_cases s with ⟨ha, h⟩ | ⟨-, h⟩ <;> rw [h]
  · obtain ⟨-, hlen⟩ := (accepts_iff _ _ _).1 ha
    have hclamp := clampLen_toNat s (fifoByte s 0)
    refine .inr ?_
    simp only [captureAccept_eq, setModeNow_slot, rxLenClamp, setModeNow_params, Config.rxBufCap, BitVec.toNat_ofNat]
    unfold rxLenClamp at hclamp
    omega
  · exact .inl (by simp [captureReject_eq, resetSlot])

/-- A capture is spurious, and writes the interrupt bits alone, or it finds RX and runs its frame part (R175, R310). -/
theorem captured_cases {s u : State} (h : execCapture s = .next u) :
    u = { s with
      irqPending := false, inIsr := false, ie := true
      busTrace := .readPayloadReady s.chip.payloadReady :: s.busTrace } ∨
    (s.mode = .rx ∧ u = capExit (sampleRssi (captureFrame (chipReadPayloadReady (capEntry s))))) := by
  rcases execCapture_cases s with ⟨hm, -, hx⟩ | ⟨-, hx⟩ <;> obtain rfl := Host.Outcome.next.inj (hx.symm.trans h)
  · exact .inr ⟨hm, rfl⟩
  · exact .inl (by rw [chipReadPayloadReady_eq]; rfl)

/-- The entry of a capture and its payload-ready read leave the registers of `captureRegisters` alone (R309). -/
theorem captureRegisters_entry (s : State) :
    captureRegisters (chipReadPayloadReady (capEntry s)) = captureRegisters s := by
  simp [captureRegisters, unitRegisters, chipReadPayloadReady_eq]

/-- The end of a capture writes RX_RSSI and the interrupt bits alone (R179, R309). -/
theorem captureEnd_fields (t : State) :
    captureRegisters (capExit (sampleRssi t)) = captureRegisters t ∧
      slotLengths (capExit (sampleRssi t)) = slotLengths t := by
  simp [captureRegisters, unitRegisters, slotLengths, sampleRssi, chipReadRssi_eq]

/-- A capture leaves the registers of `captureRegisters` alone. -/
theorem captureRegisters_of_capture {s u : State} (h : execCapture s = .next u) :
    captureRegisters u = captureRegisters s := by
  rcases captured_cases h with rfl | ⟨-, rfl⟩
  · rfl
  · obtain ⟨ended, -⟩ := captureEnd_fields (captureFrame (chipReadPayloadReady (capEntry s)))
    exact ended.trans ((captureRegisters_captureFrame _).trans (captureRegisters_entry s))

end Sys2Proof.Machine
end

section
/-! SUPPORT. The invariants of the slot's lengths and of the identity. -/

namespace Sys2Proof.Machine

/-- Lengths that are kept or cleared under the same clamp stay legal. -/
theorem slotLegal_of_lengths {s t : State} (hp : t.params = s.params)
    (hl : slotLengths t = slotLengths s ∨ slotLengths t = (0, 0)) (hs : SlotLegal s) : SlotLegal t := by
  rcases hl with hl | hl <;> obtain ⟨hf, hd⟩ := Prod.mk.inj hl
  · unfold SlotLegal rxLenClamp at *
    rwa [hf, hd, hp]
  · exact .inl ⟨hf, hd⟩

/-- The slot's lengths after a capture are legal when they were. -/
theorem slotLegal_of_capture {s u : State} (hs : SlotLegal s) (h : execCapture s = .next u) : SlotLegal u := by
  rcases captured_cases h with rfl | ⟨-, rfl⟩
  · exact hs
  · obtain ⟨hr, hl⟩ := captureEnd_fields (captureFrame (chipReadPayloadReady (capEntry s)))
    have hp := congrArg (fun r => r.1.1) hr
    exact slotLegal_of_lengths hp (.inl hl) (slotLegal_captureFrame _)

/-- A unit of any command keeps the slot's lengths legal. -/
theorem slotLegal_of_exec {i : Instr} {s u : State} (hc : isCommand i = true) (hs : SlotLegal s)
    (h : exec i s = .next u) : SlotLegal u := by
  cases hi : isInit i with
  | false =>
    have hk := keeps_exec hc hi s u h
    obtain ⟨hp, -⟩ := hk.fields
    exact slotLegal_of_lengths hp hk.lengths hs
  | true =>
    obtain ⟨addr, net, rfl⟩ := eq_init_of_isInit hi
    rcases execInit_cases addr net s with ⟨c, hx⟩ | ⟨-, -, hx⟩ <;>
      obtain rfl := Host.Outcome.next.inj (hx.symm.trans h)
    · exact hs
    · obtain ⟨-, -, hl⟩ := initEngine_fields addr net s
      exact .inl (Prod.mk.inj hl)

/-- Settles O57: commands keep or clear the two lengths, and the capture stores a clamped length with its payload's. -/
theorem slotStaysLegal : Obligations.SlotStaysLegal := by
  intro s hs
  refine ensures_step ?_ hs (fun _ _ => slotLegal_of_capture)
    (fun s i u hs _ hd hx => slotLegal_of_exec (isCommand_of_decode hd) hs hx) (fun _ _ hs _ => hs) ?_
    (fun _ _ => .inl ⟨rfl, rfl⟩)
  · intro s t he hs
    rw [he]
    exact hs
  · intro s r v hs _
    cases r <;> exact hs

/-- The identity is kept by a unit of the running command, or written by the one INIT that may run (R270). -/
theorem identity_of_exec {i : Instr} {s u : State} (hc : isCommand i = true) (h : exec i s = .next u) :
    (u.ownAddr = s.ownAddr ∧ u.initDone = s.initDone) ∨ (s.initDone = false ∧ u.ownAddr ≠ 255) := by
  cases hi : isInit i with
  | false =>
    obtain ⟨-, -, -, -, -, -, -, ha, hd⟩ := (keeps_exec hc hi s u h).fields
    exact .inl ⟨ha, hd⟩
  | true =>
    obtain ⟨addr, net, rfl⟩ := eq_init_of_isInit hi
    rcases execInit_cases addr net s with ⟨c, hx⟩ | ⟨hd, ha, hx⟩ <;>
      obtain rfl := Host.Outcome.next.inj (hx.symm.trans h)
    · exact .inl ⟨rfl, rfl⟩
    · obtain ⟨how, -, -⟩ := initEngine_fields addr net s
      exact .inr ⟨hd, by rwa [how]⟩

/-- A capture keeps the identity. -/
theorem identity_of_capture {s u : State} (h : execCapture s = .next u) :
    u.ownAddr = s.ownAddr ∧ u.initDone = s.initDone := by
  have hr := captureRegisters_of_capture h
  simp only [captureRegisters, unitRegisters, Prod.mk.injEq] at hr
  obtain ⟨⟨-, -, -, -, -, -, -, ha, hd⟩, -, -⟩ := hr
  exact ⟨ha, hd⟩

/-- The identity is no register the host can write (R75). -/
theorem identity_writeIdle (r : HostReg) (v : Word) (s : State) :
    (writeIdle r v s).ownAddr = s.ownAddr ∧ (writeIdle r v s).initDone = s.initDone := by
  cases r <;> exact ⟨rfl, rfl⟩

/-- OWN_ADDR stays a node address. -/
theorem ownAddrLegal_step {s : State} (hs : OwnAddrLegal s) : Ensures (step s) OwnAddrLegal := by
  refine ensures_step ?_ hs ?_ ?_ (fun _ _ hs _ => hs) ?_ (fun _ _ => by simp [OwnAddrLegal, resetEvent, State.reset])
  · intro s t he hs
    rw [he]
    exact hs
  · intro s u hs hx
    obtain ⟨ha, -⟩ := identity_of_capture hx
    exact fun h => hs (ha ▸ h)
  · intro s i u hs _ hd hx
    rcases identity_of_exec (isCommand_of_decode hd) hx with ⟨ha, -⟩ | ⟨-, ha⟩
    · exact fun h => hs (ha ▸ h)
    · exact ha
  · intro s r v hs _
    obtain ⟨ha, -⟩ := identity_writeIdle r v s
    exact fun h => hs (ha ▸ h)

/-- The identity a is fixed: INIT is done, and OWN_ADDR is a. -/
def IdentityFixed (a : Byte) (s : State) : Prop := s.ownAddr = a ∧ s.initDone = true

/-- Settles O58: only INIT writes OWN_ADDR, once and never with the broadcast address. -/
theorem ownAddressIsImmutable : Obligations.OwnAddressIsImmutable := by
  refine fun s => ⟨ownAddrLegal_step, fun hd hn => ?_⟩
  refine ensures_step (P := IdentityFixed s.ownAddr) ?_ ⟨rfl, hd⟩ ?_ ?_ (fun _ _ hs _ => hs) ?_ (absurd hn)
  · intro s t he hs
    rw [he]
    exact hs
  · intro s u ⟨ha, hd⟩ hx
    obtain ⟨ha', hd'⟩ := identity_of_capture hx
    exact ⟨ha'.trans ha, hd'.trans hd⟩
  · intro s i u ⟨ha, hd⟩ _ hw hx
    rcases identity_of_exec (isCommand_of_decode hw) hx with ⟨ha', hd'⟩ | ⟨hd', -⟩
    · exact ⟨ha'.trans ha, hd'.trans hd⟩
    · exact absurd (hd'.symm.trans hd) (by decide)
  · intro s r v ⟨ha, hd⟩ _
    obtain ⟨ha', hd'⟩ := identity_writeIdle r v s
    exact ⟨ha'.trans ha, hd'.trans hd⟩

end Sys2Proof.Machine
end

section
/-! SUPPORT. The agreement of MODE, CHIP_MODE and HP_ON between two segments, and how SetMode keeps it (R130, R131). -/

namespace Sys2Proof.Machine

/-- On the high-power variant the amplifiers are on in TX and off in RX; the other variant has them off (R131). -/
def AmpsAgree (s : State) : Prop :=
  (s.params.hpVariant = true → (s.chipMode = .tx → s.hpOn = true) ∧ (s.chipMode = .rx → s.hpOn = false)) ∧
  (s.params.hpVariant = false → s.hpOn = false)

/-- CHIP_MODE is MODE and the amplifiers agree: in the middle of a unit, and at every window but the waits. -/
structure Settled (s : State) : Prop where
  chip : s.chipMode = s.mode
  amps : AmpsAgree s

/-- The phases whose agreement asks for more than CHIP_MODE = MODE. -/
def isModeWait : Phase → Bool
  | .wake _ _ | .txReady | .txSent => true
  | _ => false

theorem modesAgree_wake {s : State} {m : Mode} {r : Resume} (hp : s.phase = .wake m r) :
    ModesAgree s ↔ (s.mode = .sleep ∧ s.chipMode = m ∧ m ≠ .sleep) ∧ AmpsAgree s := by
  simp only [ModesAgree, AmpsAgree, hp]

theorem modesAgree_txReady {s : State} (hp : s.phase = .txReady) :
    ModesAgree s ↔ (s.chipMode = s.mode ∧ s.mode = .standby) ∧ AmpsAgree s := by
  simp only [ModesAgree, AmpsAgree, hp]

theorem modesAgree_txSent {s : State} (hp : s.phase = .txSent) :
    ModesAgree s ↔ (s.chipMode = s.mode ∧ s.mode = .tx) ∧ AmpsAgree s := by
  simp only [ModesAgree, AmpsAgree, hp]

theorem modesAgree_plain {s : State} (hp : isModeWait s.phase = false) : ModesAgree s ↔ Settled s := by
  have settled_iff : Settled s ↔ s.chipMode = s.mode ∧ AmpsAgree s := ⟨fun h => ⟨h.chip, h.amps⟩, fun ⟨hc, ha⟩ => ⟨hc, ha⟩⟩
  rw [settled_iff]
  cases h : s.phase <;> simp only [h, isModeWait, Bool.true_eq_false] at hp <;> simp only [ModesAgree, AmpsAgree, h]

/-- Outside a wake wait, agreement leaves CHIP_MODE = MODE (R36). -/
theorem ModesAgree.settled {s : State} (h : ModesAgree s) (hp : ∀ m r, s.phase ≠ .wake m r) : Settled s := by
  cases hq : s.phase with
  | wake m r => exact absurd hq (hp m r)
  | txReady =>
    obtain ⟨⟨hc, -⟩, ha⟩ := (modesAgree_txReady hq).1 h
    exact ⟨hc, ha⟩
  | txSent =>
    obtain ⟨⟨hc, -⟩, ha⟩ := (modesAgree_txSent hq).1 h
    exact ⟨hc, ha⟩
  | start | retry | csmaEnter | csmaTest | csmaPoll | txEnter | ackWait =>
    exact (modesAgree_plain (by rw [hq]; rfl)).1 h

/-- The registers the agreement reads, the phase apart. -/
def modeRegisters (s : State) : Params × Mode × Mode × Bool := (s.params, s.mode, s.chipMode, s.hpOn)

theorem Settled.congr {s t : State} (h : Settled s) (hr : modeRegisters t = modeRegisters s) : Settled t := by
  simp only [modeRegisters, Prod.mk.injEq] at hr
  obtain ⟨hp, hm, hc, ha⟩ := hr
  obtain ⟨chip, amps⟩ := h
  refine ⟨by rw [hc, hm, chip], ?_⟩
  unfold AmpsAgree at *
  rwa [hp, hc, ha]

theorem ModesAgree.congr {s t : State} (h : ModesAgree s) (hr : modeRegisters t = modeRegisters s)
    (hp : t.phase = s.phase) : ModesAgree t := by
  simp only [modeRegisters, Prod.mk.injEq] at hr
  obtain ⟨hv, hm, hc, ha⟩ := hr
  unfold ModesAgree at *
  rwa [hp, hv, hm, hc, ha]

/-- SetMode's transactions leave the amplifiers in agreement with the mode they enter (R131). -/
theorem ampsAgree_setModeBus (m : Mode) {s : State} (h : AmpsAgree s) : AmpsAgree (setModeBus m s) := by
  obtain ⟨-, off⟩ := h
  refine ⟨fun hv => ?_, fun hv => ?_⟩
  · simp only [setModeBus_params] at hv
    cases m <;> simp [hpAfter, hv]
  · simp only [setModeBus_params] at hv
    simpa [hpAfter, hv] using off hv

/-- A SetMode without a wait ends in agreement (R130). -/
theorem Settled.setModeNow (m : Mode) {s : State} (h : Settled s) : Settled (setModeNow m s) := by
  by_cases hm : s.mode = m
  · rwa [setModeNow_same hm]
  · rw [setModeNow_other hm]
    exact ⟨by simp, ampsAgree_setModeBus m h.amps⟩

/-- A SetMode that leaves Sleep waits with CHIP_MODE ahead of MODE (R130). -/
theorem Settled.modesAgree_wake {m : Mode} (r : Resume) {s : State} (h : Settled s) (hs : s.mode = .sleep)
    (hm : m ≠ .sleep) : ModesAgree (enterReadyWait (.wake m r) (setModeBus m s)) := by
  refine (Machine.modesAgree_wake rfl).2 ⟨⟨?_, ?_, hm⟩, ampsAgree_setModeBus m h.amps⟩
  · simpa using hs
  · simp

/-- The end of a wake wait brings MODE to CHIP_MODE (R130). -/
theorem ModesAgree.settled_of_wake {s : State} {m : Mode} {r : Resume} (h : ModesAgree s) (hp : s.phase = .wake m r) :
    Settled { s with mode := m } := by
  obtain ⟨⟨-, hc, -⟩, ha⟩ := (modesAgree_wake hp).1 h
  exact ⟨hc, ha⟩

/-- ReceiveBegin's part before its SetMode leaves the modes alone (R171). -/
theorem modeRegisters_rearm (s : State) : modeRegisters (rearm s) = modeRegisters s := by simp [modeRegisters]

/-- INIT ends in agreement: in Standby the amplifiers, just turned off, are asked for nothing (R270). -/
theorem settled_setModeNow_initBus (addr net : Byte) {s : State} (h : Settled s) :
    Settled (setModeNow .standby (initBus addr net s)) := by
  obtain ⟨-, hp, hm, hc, ha⟩ := initBus_fields addr net s
  obtain ⟨chip, -, off⟩ := h
  have standby : (setModeNow .standby (initBus addr net s)).chipMode = .standby := by
    rw [setModeNow_chipMode, hm, hc, chip]
    split
    · assumption
    · rfl
  have amps : (setModeNow .standby (initBus addr net s)).hpOn = (!s.params.hpVariant && s.hpOn) := by
    rw [setModeNow_hpOn]
    split <;> simp [hpAfter, ha]
  refine ⟨by rw [standby, setModeNow_mode], ?_⟩
  simpa [AmpsAgree, standby, amps, hp] using off

/-- The frame part of a capture ends in RX, in agreement (R175). -/
theorem settled_captureFrame {s : State} (h : Settled s) : Settled (captureFrame s) := by
  have hs := h.setModeNow .standby
  rcases captureFrame_cases s with ⟨-, hx⟩ | ⟨-, hx⟩ <;> rw [hx]
  · rw [captureAccept_eq]
    refine Settled.setModeNow .rx (hs.congr ?_)
    simp [modeRegisters]
  · rw [captureReject_eq]
    refine (Settled.congr ?_ (modeRegisters_rearm _)).setModeNow .rx
    exact hs.congr (by simp [modeRegisters])

end Sys2Proof.Machine
end

section
/-! SUPPORT. The sequencer's invariants through one unit of a command. A unit is `Begun` at a position its command owns;
past the decode checks it is `Ready`, from one bus transaction to the next; and it `Lands` at a window or at the end of
the command, where the sequencer is legal and, when `A` holds, the modes agree. Each routine has one rule. `A` says that
the modes agreed when the unit began. -/

namespace Sys2Proof.Machine

/-- The registers that say where the sequencer is, the phase apart (R49, R63). -/
def sequencerRegisters (s : State) : Word × Byte × BitVec 16 × Bool := (s.curCmd, s.argLen, s.argPtr, s.busy)

/-- All that the invariants of the sequencer and of the modes read, the phase apart. -/
def unitControl (s : State) : (Word × Byte × BitVec 16 × Bool) × Params × Mode × Mode × Bool :=
  (sequencerRegisters s, modeRegisters s)

/-- The unit answers a next state, and the state has a property. -/
def Completes (o : Result) (P : State → Prop) : Prop := ∃ u, o = .next u ∧ P u

theorem Completes.next {u : State} {P : State → Prop} (h : P u) : Completes (.next u) P := ⟨u, rfl, h⟩

/-- In the middle of a unit of the running command i, past its decode checks. -/
structure Ready (A : Prop) (i : Instr) (s : State) : Prop where
  word : decodeCommand s.curCmd = .ok i
  range : hostRangeOk i s = true
  busy : s.busy = true
  settled : A → Settled s

/-- The end of a unit. -/
structure Lands (A : Prop) (s : State) : Prop where
  legal : SequencerLegal s
  modes : A → ModesAgree s

/-- The beginning of a unit of the running command i. -/
structure Begun (A : Prop) (i : Instr) (s : State) : Prop where
  word : decodeCommand s.curCmd = .ok i
  busy : s.busy = true
  owns : ownsPhase i s.phase = true
  range : s.phase ≠ .start → hostRangeOk i s = true
  modes : A → ModesAgree s

section
variable {A : Prop} {i : Instr} {s t u : State} {k : State → State}

/-! ### From one transaction to the next, and to the end of the unit -/

theorem Ready.congr (h : Ready A i s) (hc : unitControl t = unitControl s := by rfl) : Ready A i t := by
  simp only [unitControl, sequencerRegisters, Prod.mk.injEq] at hc
  obtain ⟨⟨hw, hl, hp, hb⟩, hm⟩ := hc
  exact ⟨hw ▸ h.word, (hostRangeOk_congr i hl hp).trans h.range, hb.trans h.busy, fun ha => (h.settled ha).congr hm⟩

theorem Ready.legal (h : Ready A i s) (hc : sequencerRegisters u = sequencerRegisters s)
    (hown : ownsPhase i u.phase = true) : SequencerLegal u := by
  simp only [sequencerRegisters, Prod.mk.injEq] at hc
  obtain ⟨hw, hl, hp, hb⟩ := hc
  refine ⟨fun hf => ?_, fun _ => ⟨i, hw ▸ h.word, hown, (hostRangeOk_congr i hl hp).trans h.range⟩⟩
  rw [hb, h.busy] at hf
  exact absurd hf (by decide)

/-- A window that asks for no mode. -/
theorem Ready.window (h : Ready A i s) (hown : ownsPhase i u.phase = true) (hw : isModeWait u.phase = false)
    (hc : unitControl u = unitControl s := by rfl) : Lands A u :=
  have hu : Ready A i u := h.congr hc
  ⟨hu.legal rfl hown, fun ha => (modesAgree_plain hw).2 (hu.settled ha)⟩

theorem Ready.finish (h : Ready A i s) : Lands A (finish s) :=
  ⟨⟨fun _ => rfl, fun hp => absurd rfl hp⟩, fun ha => (modesAgree_plain rfl).2 ((h.settled ha).congr rfl)⟩

theorem Ready.finishWith (h : Ready A i s) (v : Word) : Lands A (finishWith v s) :=
  Ready.finish (s := { s with result := v }) h.congr

/-- The mode-ready wait of TransmitFrame is entered in Standby (R230). -/
theorem Ready.enterTxReady (h : Ready A i s) (hown : ownsPhase i .txReady = true) (hm : s.mode = .standby) :
    Lands A (enterReadyWait .txReady s) :=
  ⟨h.legal rfl hown, fun ha => (modesAgree_txReady rfl).2 ⟨⟨(h.settled ha).chip, hm⟩, (h.settled ha).amps⟩⟩

/-- The packet-sent wait is entered in TX (R230). -/
theorem Ready.enterTxSent (h : Ready A i s) (hown : ownsPhase i .txSent = true) (hm : s.mode = .tx) :
    Lands A (sentWait s) :=
  ⟨h.legal rfl hown, fun ha => (modesAgree_txSent rfl).2 ⟨⟨(h.settled ha).chip, hm⟩, (h.settled ha).amps⟩⟩

/-! ### SetMode and the routines on it -/

theorem Ready.setModeNow (h : Ready A i s) (m : Mode) : Ready A i (setModeNow m s) :=
  ⟨by simpa using h.word, (hostRangeOk_congr i (by simp) (by simp)).trans h.range, by simpa using h.busy,
    fun ha => (h.settled ha).setModeNow m⟩

/-- SetMode(m) lands in its wake wait, or goes on in m (R130). -/
theorem Ready.setModeThen (h : Ready A i s) {m : Mode} {r : Resume}
    (hown : m ≠ .sleep → ownsPhase i (.wake m r) = true)
    (hk : ∀ t, Ready A i t → t.mode = m → Lands A (k t)) : Lands A (setModeThen m r k s) := by
  rcases setModeThen_cases m r k s with ⟨hs, hm, hx⟩ | ⟨-, hx⟩ <;> rw [hx]
  · exact ⟨h.legal (by simp [sequencerRegisters]) (hown hm), fun ha => (h.settled ha).modesAgree_wake r hs hm⟩
  · exact hk _ (h.setModeNow m) (setModeNow_mode m s)

theorem Ready.rearm (h : Ready A i s) : Ready A i (rearm s) :=
  h.congr (by simp [unitControl, sequencerRegisters, modeRegisters])

theorem Ready.receiveBeginThen (h : Ready A i s) {r : Resume} (hown : ownsPhase i (.wake .rx r) = true)
    (hk : ∀ t, Ready A i t → Lands A (k t)) : Lands A (receiveBeginThen r k s) :=
  h.rearm.setModeThen (fun _ => hown) fun t ht _ => hk t ht

theorem Ready.receiveDone (h : Ready A i s) {r : Resume} {kTrue kFalse : State → State}
    (hown : ownsPhase i (.wake .rx r) = true) (hT : ∀ t, Ready A i t → Lands A (kTrue t))
    (hF : ∀ t, Ready A i t → Lands A (kFalse t)) : Lands A (receiveDone r kTrue kFalse s) := by
  have masked : ∀ b, Ready A i { s with ie := b } := fun _ => h.congr
  rcases receiveDone_cases r kTrue kFalse s with ⟨-, -, hx⟩ | ⟨-, -, hx⟩ | ⟨-, hx⟩ <;> rw [hx]
  · exact hT _ ((masked _).setModeNow _)
  · exact hF _ (masked _)
  · exact (masked _).receiveBeginThen hown hF

/-! ### The channel-clear wait (R212) -/

theorem Ready.canSendEffect (h : Ready A i s) : Ready A i (canSendEffect s) := by
  have sampled : Ready A i (chipReadRssi s) := h.congr
  rcases canSendEffect_cases s with ⟨-, -, hx⟩ | ⟨-, -, hx⟩ | ⟨-, -, hx⟩ <;> rw [hx]
  · exact h
  · exact sampled
  · exact sampled.setModeNow _

theorem Ready.csmaTestSegment (h : Ready A i s) {bound : Word} {done : Bool → State → State}
    (hown : ownsPhase i .csmaPoll = true) (hk : ∀ b t, Ready A i t → Lands A (done b t)) :
    Lands A (csmaTestSegment bound done s) := by
  rcases csmaTestSegment_cases bound done s with ⟨-, hx⟩ | ⟨-, -, hx⟩ | ⟨-, -, hx⟩ <;> rw [hx]
  · exact hk _ _ h.canSendEffect
  · exact hk _ _ h.canSendEffect
  · exact h.canSendEffect.window hown rfl

theorem Ready.csmaPollSegment (h : Ready A i s) (hown : ownsPhase i .csmaTest = true)
    (hwake : ownsPhase i (.wake .rx .csma) = true) : Lands A (csmaPollSegment s) :=
  h.receiveDone hwake (fun _ ht => ht.window hown rfl) (fun _ ht => ht.window hown rfl)

/-! ### The frame (R151) -/

/-- Where the range check passes, the payload can be read (R63). -/
theorem payloadBytes_of_range (hn : hostBytes i s = some (payloadCount s)) (hr : hostRangeOk i s = true) :
    ∃ payload, payloadBytes s = some payload := by
  have hfit : payloadAddr s + payloadCount s ≤ Config.hostMemSize := by simpa [hostRangeOk, hn] using hr
  exact ⟨_, if_pos hfit⟩

theorem Ready.writeFrameThen (h : Ready A i s) {target : Byte} {rq ar : Bool}
    (hn : hostBytes i s = some (payloadCount s)) (hk : ∀ t, Ready A i t → Lands A (k t)) :
    Completes (writeFrameThen target rq ar k s) (Lands A) := by
  obtain ⟨payload, hp⟩ := payloadBytes_of_range hn h.range
  rcases writeFrameThen_cases target rq ar k s with ⟨hnone, -⟩ | ⟨payload, -, hx⟩
  · exact absurd (hp.symm.trans hnone) (by simp)
  · have loaded : Ready A i { s with work := { s.work with lAcc := BitVec.ofNat 8 (payloadCount s) } } := h.congr
    rw [hx]
    exact .next (hk _ loaded.congr)

/-! ### The beginning of a unit -/

/-- Phase 0 raises its fault at the start, or goes on past the checks (R302). -/
theorem Begun.started (h : Begun A i s) {segment : State → Result} (hp : s.phase = .start)
    (hk : Ready A i s → Completes (segment s) (Lands A)) : Completes (started i s segment) (Lands A) := by
  rcases started_cases i s segment with ⟨c, -, hx⟩ | ⟨hd, hx⟩ <;> rw [hx]
  · exact .next ⟨⟨fun hf => absurd hf (by simp), fun hne => absurd hp hne⟩, fun ha => (h.modes ha).congr rfl rfl⟩
  · obtain ⟨-, -, -, -, hrange⟩ := decodeFault_eq_none.1 hd
    exact hk ⟨h.word, hrange, h.busy, fun ha => (h.modes ha).settled (by simp [hp])⟩

/-- At a window that is no wake wait the unit goes on at once. -/
theorem Begun.ready (h : Begun A i s) (hp : s.phase ≠ .start) (hw : ∀ m r, s.phase ≠ .wake m r) : Ready A i s :=
  ⟨h.word, h.range hp, h.busy, fun ha => (h.modes ha).settled hw⟩

/-- A poll that stays at its window. -/
theorem Begun.stays (h : Begun A i s) (hc : unitControl u = unitControl s) (hp : u.phase = s.phase) : Lands A u := by
  simp only [unitControl, sequencerRegisters, Prod.mk.injEq] at hc
  obtain ⟨⟨hw, hl, ha, hb⟩, hm⟩ := hc
  refine ⟨⟨fun hf => ?_, fun hne => ?_⟩, fun hA => (h.modes hA).congr hm hp⟩
  · rw [hb, h.busy] at hf
    exact absurd hf (by decide)
  · rw [hp] at hne
    exact ⟨i, hw ▸ h.word, hp ▸ h.owns, (hostRangeOk_congr i hl ha).trans (h.range hne)⟩

/-- A poll of a wake wait stays, or goes on in the mode that was waited for (R130, R132). -/
theorem Begun.wakePoll (h : Begun A i s) {m : Mode} {r : Resume} (hp : s.phase = .wake m r)
    (hk : ∀ t, Ready A i t → t.mode = m → Lands A (k t)) : Completes (.next (wakePoll m k s)) (Lands A) := by
  refine .next ?_
  rcases wakePoll_cases m k s with ⟨-, hx⟩ | ⟨-, hx⟩ <;> rw [hx]
  · have awake : Ready A i { s with mode := m } :=
      ⟨h.word, h.range (by simp [hp]), h.busy, fun ha => (h.modes ha).settled_of_wake hp⟩
    exact hk _ awake.congr rfl
  · exact h.stays rfl rfl

/-- The position of a command of one segment. -/
theorem Begun.atStart (h : Begun A i s) (hi : ∀ p, ownsPhase i p = (p == .start)) : s.phase = .start := by
  simpa [hi] using h.owns

/-- A command of one segment completes when its segment does. -/
theorem Begun.oneSegment (h : Begun A i s) (hi : ∀ p, ownsPhase i p = (p == .start))
    (hk : Ready A i s → Lands A (k s)) : Completes (Machine.started i s fun s => .next (k s)) (Lands A) :=
  h.started (h.atStart hi) fun hr => .next (hk hr)

/-! ### TransmitFrame and SEND's body (R230, R231) -/

/-- The head of SEND's body restarts the receiver and stops before the channel wait (R231). -/
theorem Ready.sendHead (h : Ready A i s) (hown : ownsPhase i .csmaEnter = true) : Lands A (sendHead s) :=
  h.window hown rfl

theorem Ready.transmitStart (h : Ready A i s) (hown : ∀ p, sendPhase p = true → ownsPhase i p = true) :
    Lands A (transmitStart s) :=
  h.setModeThen (fun _ => hown _ rfl) fun _ ht hm => ht.enterTxReady (hown _ rfl) hm

theorem Begun.transmitReady (h : Begun A i s) {x : Transmission} (hown : ∀ p, sendPhase p = true → ownsPhase i p = true)
    (hn : ∀ t, hostBytes i t = some (payloadCount t)) (hp : s.phase = .txReady) :
    Completes (transmitReady x s) (Lands A) := by
  have ready : Ready A i s := h.ready (by simp [hp]) (by simp [hp])
  rcases transmitReady_cases x s with ⟨-, hx⟩ | ⟨-, hx⟩ <;> rw [hx]
  · have polled : Ready A i (chipReadModeReady s) := ready.congr
    have mapped : Ready A i (chipSetDio0Map true (chipReadModeReady s)) := polled.congr
    exact mapped.writeFrameThen (hn _) fun t ht =>
      ht.setModeThen (fun _ => hown _ rfl) fun _ hu hm => hu.enterTxSent (hown _ rfl) hm
  · exact .next (h.stays rfl rfl)

theorem Begun.transmitSent (h : Begun A i s) {x : Transmission} (hown : ∀ p, sendPhase p = true → ownsPhase i p = true)
    (hafter : ∀ t, Ready A i t → Lands A (x.after t)) (hp : s.phase = .txSent) : Lands A (transmitSent x s) := by
  have ready : Ready A i s := h.ready (by simp [hp]) (by simp [hp])
  rcases transmitSent_cases x s with ⟨-, hx⟩ | ⟨-, hx⟩ <;> rw [hx]
  · have polled : Ready A i (chipReadPacketSent s) := ready.congr
    exact polled.setModeThen (fun _ => hown _ rfl) fun t ht _ => hafter t ht
  · exact h.stays rfl rfl

theorem mode_of_sendPhase_txStart {m : Mode} (h : sendPhase (.wake m .txStart) = true) : m = .standby := by
  cases m <;> simp [sendPhase] at h ⊢

theorem mode_of_sendPhase_txSend {m : Mode} (h : sendPhase (.wake m .txSend) = true) : m = .tx := by
  cases m <;> simp [sendPhase] at h ⊢

/-- SEND's body at each of its windows, for a command that owns them all and checked the payload's range. -/
theorem Begun.sendBody (h : Begun A i s) {x : Transmission} (hown : ∀ p, sendPhase p = true → ownsPhase i p = true)
    (hn : ∀ t, hostBytes i t = some (payloadCount t)) (hafter : ∀ t, Ready A i t → Lands A (x.after t))
    (hsend : sendPhase s.phase = true) : Completes (sendBody x s) (Lands A) := by
  unfold Machine.sendBody
  cases hp : s.phase with
  | start | retry | ackWait => simp [hp, sendPhase] at hsend
  | csmaEnter => exact .next ((h.ready (by simp [hp]) (by simp [hp])).window (hown _ rfl) rfl)
  | csmaTest =>
    exact .next ((h.ready (by simp [hp]) (by simp [hp])).csmaTestSegment (hown _ rfl) fun _ _ ht =>
      ht.window (hown _ rfl) rfl)
  | csmaPoll => exact .next ((h.ready (by simp [hp]) (by simp [hp])).csmaPollSegment (hown _ rfl) (hown _ rfl))
  | txEnter => exact .next ((h.ready (by simp [hp]) (by simp [hp])).transmitStart hown)
  | txReady => exact h.transmitReady hown hn hp
  | txSent => exact .next (h.transmitSent hown hafter hp)
  | wake m r =>
    rw [hp] at hsend
    cases r with
    | finish | ackPoll => cases m <;> simp [sendPhase] at hsend
    | csma => exact h.wakePoll hp fun _ ht _ => ht.window (hown _ rfl) rfl
    | txStart =>
      exact h.wakePoll hp fun _ ht hm => ht.enterTxReady (hown _ rfl) (hm.trans (mode_of_sendPhase_txStart hsend))
    | txSend =>
      exact h.wakePoll hp fun _ ht hm => ht.enterTxSent (hown _ rfl) (hm.trans (mode_of_sendPhase_txSend hsend))
    | txEnd => exact h.wakePoll hp fun t ht _ => hafter t ht

end

end Sys2Proof.Machine
end

section
/-! SUPPORT. A unit of each command, begun at a position the command owns, completes and lands: the invariants of the
sequencer and of the modes through `exec`. -/

namespace Sys2Proof.Machine

section
variable {A : Prop} {s : State}

/-! ### Commands of one segment -/

theorem begun_init {addr net : Byte} (h : Begun A (.init addr net) s) :
    Completes (execInit addr net s) (Lands A) := by
  refine h.oneSegment (fun _ => rfl) fun hr => ?_
  rw [initEngine_eq]
  exact ⟨⟨fun _ => rfl, fun hp => absurd rfl hp⟩,
    fun ha => (modesAgree_plain rfl).2
      ((settled_setModeNow_initBus addr net (hr.settled ha)).congr (by simp [modeRegisters]))⟩

theorem begun_setEncryptionKey {key : Bool} (h : Begun A (.setEncryptionKey key) s) :
    Completes (execSetEncryptionKey key s) (Lands A) := by
  refine h.started (h.atStart fun _ => rfl) fun hr => ?_
  cases key with
  | false => exact .next (Ready.finish (s := chipSetAesOff s) hr.congr)
  | true =>
    have hfit : payloadAddr s + Config.keyLen ≤ Config.hostMemSize := by
      simpa [hostRangeOk, hostBytes] using hr.range
    obtain ⟨key, hk⟩ : ∃ key, keyBytes s = some key := ⟨_, if_pos hfit⟩
    simp only [hk, if_true]
    exact .next (Ready.finish (s := chipSetAesKey key s) hr.congr)

theorem begun_writeFrame {target : Byte} {rq ar : Bool} (h : Begun A (.writeFrame target rq ar) s) :
    Completes (execWriteFrame target rq ar s) (Lands A) :=
  h.started (h.atStart fun _ => rfl) fun hr => hr.writeFrameThen rfl fun _ ht => ht.finish

theorem begun_slotCommand {i : Instr} {value : Slot → Word} (h : Begun A i s)
    (hi : ∀ p, ownsPhase i p = (p == .start)) : Completes (slotCommand i value s) (Lands A) :=
  h.oneSegment hi fun hr => hr.finishWith _

/-! ### Commands that may wait for a wake (R130) -/

/-- The position of a command that waits for a wake to RX at most. -/
theorem start_or_wake {i : Instr} (h : Begun A i s)
    (hi : ∀ p, ownsPhase i p = (p == .start || p == .wake .rx .finish)) :
    s.phase = .start ∨ s.phase = .wake .rx .finish := by
  simpa [hi] using h.owns

theorem begun_setMode {code : Byte} (h : Begun A (.setMode code) s) : Completes (execSetMode code s) (Lands A) := by
  unfold execSetMode
  cases hm : modeOfCode code with
  | none =>
    have hp : s.phase = .start := by
      have hown := h.owns
      cases hp : s.phase with
      | start => rfl
      | wake m r =>
        cases r <;> simp [hp, ownsPhase, hm] at hown
      | _ => simp [hp, ownsPhase] at hown
    exact h.started hp fun hr => .next ⟨⟨by simp [hr.busy], fun hne => absurd hp hne⟩, h.modes⟩
  | some m =>
    have hown := h.owns
    simp only [setModeCommand]
    cases hp : s.phase with
    | start =>
      exact h.started hp fun hr => .next (hr.setModeThen (fun _ => by simp [ownsPhase, hm]) fun _ ht _ => ht.finish)
    | wake m' r =>
      cases r with
      | finish => exact h.wakePoll hp fun _ ht _ => ht.finish
      | csma | ackPoll | txStart | txSend | txEnd => simp [hp, ownsPhase] at hown
    | _ => simp [hp, ownsPhase] at hown

theorem begun_receiveBegin (h : Begun A .receiveBegin s) : Completes (execReceiveBegin s) (Lands A) := by
  unfold execReceiveBegin
  rcases start_or_wake h (fun _ => rfl) with hp | hp <;> simp only [hp]
  · exact h.started hp fun hr => .next (hr.receiveBeginThen rfl fun _ ht => ht.finish)
  · exact h.wakePoll hp fun _ ht _ => ht.finish

theorem begun_pollReceived (h : Begun A .pollReceived s) : Completes (execPollReceived s) (Lands A) := by
  unfold execPollReceived
  rcases start_or_wake h (fun _ => rfl) with hp | hp <;> simp only [hp]
  · exact h.started hp fun hr => .next (hr.receiveDone rfl (fun _ ht => ht.finishWith _) fun _ ht => ht.finishWith _)
  · exact h.wakePoll hp fun _ ht _ => ht.finishWith _

theorem begun_ackReceived {src : Byte} (h : Begun A (.ackReceived src) s) :
    Completes (execAckReceived src s) (Lands A) := by
  unfold execAckReceived
  rcases start_or_wake h (fun _ => rfl) with hp | hp <;> simp only [hp]
  · exact h.started hp fun hr => .next (hr.receiveDone rfl (fun _ ht => ht.finishWith _) fun _ ht => ht.finishWith _)
  · exact h.wakePoll hp fun _ ht _ => ht.finishWith _

/-! ### The channel-clear wait and the transmit commands (R213, R231 to R235) -/

theorem begun_awaitClearChannel (h : Begun A .awaitClearChannel s) :
    Completes (execAwaitClearChannel s) (Lands A) := by
  have hown : ((s.phase = .start ∨ s.phase = .csmaTest) ∨ s.phase = .csmaPoll) ∨ s.phase = .wake .rx .csma := by
    simpa [ownsPhase] using h.owns
  unfold execAwaitClearChannel
  rcases hown with ((hp | hp) | hp) | hp <;> simp only [hp]
  · exact h.started hp fun hr => .next (hr.window rfl rfl)
  · exact .next ((h.ready (by simp [hp]) (by simp [hp])).csmaTestSegment rfl fun _ _ ht => ht.finishWith _)
  · exact .next ((h.ready (by simp [hp]) (by simp [hp])).csmaPollSegment rfl rfl)
  · exact h.wakePoll hp fun _ ht _ => ht.window rfl rfl

theorem begun_send {target : Byte} {reqAck : Bool} (h : Begun A (.send target reqAck) s) :
    Completes (execSend target reqAck s) (Lands A) := by
  have hown : s.phase = .start ∨ sendPhase s.phase = true := by simpa [ownsPhase] using h.owns
  unfold execSend
  split
  · next hp => exact h.started hp fun hr => .next (hr.sendHead rfl)
  · next hp =>
    exact h.sendBody (fun p hsend => by simp [ownsPhase, hsend]) (fun _ => rfl) (fun _ ht => ht.finish)
      (hown.resolve_left hp)

theorem begun_sendAck (h : Begun A .sendAck s) : Completes (execSendAck s) (Lands A) := by
  have hown : s.phase = .start ∨ sendPhase s.phase = true := by simpa [ownsPhase] using h.owns
  unfold execSendAck
  split
  · next hp =>
    refine h.started hp fun hr => .next ?_
    have saved : Ready A .sendAck (saveSlot s) := hr.congr
    exact saved.sendHead rfl
  · next hp =>
    exact h.sendBody (fun p hsend => by simp [ownsPhase, hsend]) (fun _ => rfl)
      (fun t ht => Ready.finish (s := restoreSlot t) ht.congr) (hown.resolve_left hp)

theorem Ready.ackWaitSegment {target retries : Byte} (h : Ready A (.sendWithRetry target retries) s) :
    Lands A (ackWaitSegment target retries s) := by
  rcases ackWaitSegment_cases target retries s with ⟨-, -, hx⟩ | ⟨-, -, hx⟩ | ⟨-, hx⟩ <;> rw [hx]
  · exact h.finishWith _
  · exact h.window rfl rfl
  · refine h.receiveDone rfl (fun t ht => ?_) fun _ ht => ht.window rfl rfl
    cases ackMatches target t
    · exact ht.window rfl rfl
    · exact ht.finishWith _

theorem begun_sendWithRetry {target retries : Byte} (h : Begun A (.sendWithRetry target retries) s) :
    Completes (execSendWithRetry target retries s) (Lands A) := by
  have hown : (((s.phase = .start ∨ s.phase = .retry) ∨ s.phase = .ackWait) ∨ s.phase = .wake .rx .ackPoll) ∨
      sendPhase s.phase = true := by simpa [ownsPhase] using h.owns
  unfold execSendWithRetry
  split
  · next hp =>
    refine h.started hp fun hr => .next ?_
    have counted : Ready A (.sendWithRetry target retries) { s with work := { s.work with attempt := 0 } } := hr.congr
    exact counted.sendHead rfl
  · next hp => exact .next ((h.ready (by simp [hp]) (by simp [hp])).sendHead rfl)
  · next hp => exact .next (h.ready (by simp [hp]) (by simp [hp])).ackWaitSegment
  · next hp => exact h.wakePoll hp fun _ ht _ => ht.window rfl rfl
  · next h1 h2 h3 h4 =>
    refine h.sendBody (fun p hsend => by simp [ownsPhase, hsend]) (fun _ => rfl) (fun _ ht => ht.window rfl rfl) ?_
    rcases hown with (((hp | hp) | hp) | hp) | hp
    · exact absurd hp h1
    · exact absurd hp h2
    · exact absurd hp h3
    · exact absurd hp (h4 _)
    · exact hp

end

/-- A unit of the running command completes and lands: with the sequencer legal it ends in no fault of the model, keeps
the sequencer legal, and keeps the modes in agreement. -/
theorem completes_exec {A : Prop} {i : Instr} {s : State} (h : Begun A i s) : Completes (exec i s) (Lands A) := by
  have hc := isCommand_of_decode h.word
  unfold exec
  cases i with
  | init addr net => exact begun_init h
  | setNetwork net => exact h.oneSegment (fun _ => rfl) fun hr => Ready.finish hr.congr
  | setPromiscuous on => exact h.oneSegment (fun _ => rfl) fun hr => Ready.finish hr.congr
  | setPowerLevel level => exact h.oneSegment (fun _ => rfl) fun hr => Ready.finish hr.congr
  | setFrequency => exact h.oneSegment (fun _ => rfl) fun hr => Ready.finish hr.congr
  | getFrequency => exact h.oneSegment (fun _ => rfl) fun hr => Ready.finishWith hr.congr _
  | setEncryptionKey key => exact begun_setEncryptionKey h
  | sleep => exact h.oneSegment (fun _ => rfl) fun hr => (hr.setModeNow .sleep).finish
  | send target reqAck => exact begun_send h
  | sendWithRetry target retries => exact begun_sendWithRetry h
  | sendAck => exact begun_sendAck h
  | ackReceived src => exact begun_ackReceived h
  | ackRequested => exact begun_slotCommand h fun _ => rfl
  | pollReceived => exact begun_pollReceived h
  | setMode code => exact begun_setMode h
  | receiveBegin => exact begun_receiveBegin h
  | canSend => exact h.oneSegment (fun _ => rfl) fun hr => hr.canSendEffect.finishWith _
  | awaitClearChannel => exact begun_awaitClearChannel h
  | writeFrame target reqAck ackReply => exact begun_writeFrame h
  | getSender => exact begun_slotCommand h fun _ => rfl
  | getTarget => exact begun_slotCommand h fun _ => rfl
  | getLength => exact begun_slotCommand h fun _ => rfl
  | getRssi => exact begun_slotCommand h fun _ => rfl
  | getPayloadByte index => exact begun_slotCommand h fun _ => rfl
  | getAckFlags => exact begun_slotCommand h fun _ => rfl
  | capture | frameData f | frameDataReqack f | frameAck f | frameAckReqack f => simp [isCommand, encode] at hc

end Sys2Proof.Machine
end

section
/-! SUPPORT. The invariants of the sequencer and of the modes at every step. -/

namespace Sys2Proof.Machine

/-- Every command owns its start (R302). -/
theorem ownsPhase_start (i : Instr) : ownsPhase i .start = true := by cases i <;> rfl

/-- A unit of the running command begins where a legal sequencer stands. -/
theorem begun_of_legal {A : Prop} {i : Instr} {s : State} (hs : SequencerLegal s) (hb : s.busy = true)
    (hd : decodeCommand s.curCmd = .ok i) (hm : A → ModesAgree s) : Begun A i s := by
  obtain ⟨-, hrun⟩ := hs
  by_cases hp : s.phase = .start
  · exact ⟨hd, hb, hp ▸ ownsPhase_start i, fun hne => absurd hp hne, hm⟩
  · obtain ⟨j, hj, hown, hrange⟩ := hrun hp
    obtain rfl : j = i := Except.ok.inj (hj.symm.trans hd)
    exact ⟨hd, hb, hown, fun _ => hrange, hm⟩

/-- A command's unit that answers a next state has landed. -/
theorem lands_of_exec {A : Prop} {i : Instr} {s u : State} (h : Begun A i s) (hx : exec i s = .next u) : Lands A u := by
  obtain ⟨v, hv, lands⟩ := completes_exec h
  obtain rfl : v = u := Host.Outcome.next.inj (hv.symm.trans hx)
  exact lands

/-! ### The sequencer (R49, R63) -/

/-- The sequencer's invariant reads the sequencer's registers and the phase alone. -/
theorem SequencerLegal.congr {s t : State} (h : SequencerLegal s) (hc : sequencerRegisters t = sequencerRegisters s)
    (hp : t.phase = s.phase) : SequencerLegal t := by
  simp only [sequencerRegisters, Prod.mk.injEq] at hc
  obtain ⟨hw, hl, ha, hb⟩ := hc
  obtain ⟨idle, run⟩ := h
  rw [SequencerLegal, hp, hb, hw]
  refine ⟨idle, fun hne => ?_⟩
  obtain ⟨i, hd, hown, hrange⟩ := run hne
  exact ⟨i, hd, hown, (hostRangeOk_congr i hl ha).trans hrange⟩

theorem sequencerLegal_engineOnly : EngineOnly SequencerLegal := by
  intro s t he hs
  rw [he]
  exact hs.congr rfl rfl

/-- A capture leaves the sequencer alone (R175). -/
theorem sequencerLegal_of_capture {s u : State} (hs : SequencerLegal s) (hx : execCapture s = .next u) :
    SequencerLegal u := by
  have hr := captureRegisters_of_capture hx
  simp only [captureRegisters, unitRegisters, Prod.mk.injEq] at hr
  obtain ⟨⟨-, -, hw, hl, ha, -⟩, hb, hp⟩ := hr
  exact hs.congr (by simp only [sequencerRegisters, hw, hl, ha, hb]) hp

/-- A latched fault leaves the sequencer at its position, BUSY (R303). -/
theorem sequencerLegal_raiseFault {s : State} (c : FaultCode) (hs : SequencerLegal s) (hb : s.busy = true) :
    SequencerLegal (raiseFault c s) :=
  hs.congr (by simp [sequencerRegisters, hb]) rfl

/-- While IDLE the sequencer is at the start, and a host write leaves it there (R62). -/
theorem sequencerLegal_writeIdle {s : State} (r : HostReg) (v : Word) (hs : SequencerLegal s) (hb : s.busy = false) :
    SequencerLegal (writeIdle r v s) := by
  obtain ⟨idle, -⟩ := hs
  have hp : (writeIdle r v s).phase = .start := by
    cases r with
    | cmd => rfl
    | argLen | argPtr | argTmo | argFreq | result | status | faultInfo => exact idle hb
  exact ⟨fun _ => hp, fun hne => absurd hp hne⟩

theorem sequencerLegal_resetEvent (s : State) : SequencerLegal (resetEvent s) :=
  ⟨fun _ => rfl, fun hne => absurd rfl hne⟩

/-- Settles O52: a unit lands at a position of its command, and the other moves leave the sequencer where it is. -/
theorem sequencerStaysLegal : Obligations.SequencerStaysLegal := fun _ hs =>
  ensures_step sequencerLegal_engineOnly hs (fun _ _ => sequencerLegal_of_capture)
    (fun _ _ _ hs hb hd hx => (lands_of_exec (begun_of_legal (A := False) hs hb hd False.elim) hx).legal)
    (fun _ c => sequencerLegal_raiseFault c) (fun _ r v => sequencerLegal_writeIdle r v)
    (fun _ => sequencerLegal_resetEvent)

/-- Settles O53: only a unit of the running command could end in a fault of the model, and from a legal sequencer each
one completes. -/
theorem stepNeverFaults : Obligations.StepNeverFaults := by
  intro s hs r hr
  obtain ⟨t, he, hb, i, hd, hx⟩ := exec_of_step_fault hr
  have ht : SequencerLegal t := sequencerLegal_engineOnly s t he hs
  obtain ⟨u, hu, -⟩ := completes_exec (begun_of_legal (A := False) ht hb hd False.elim)
  cases hu.symm.trans hx

/-! ### The modes (R36, R131) -/

/-- A capture ends in the mode it found: a frame is read only in RX, which no mode-ready wait is in (R175). -/
theorem modesAgree_of_capture {s u : State} (hm : ModesAgree s) (hx : execCapture s = .next u) : ModesAgree u := by
  have hr := captureRegisters_of_capture hx
  simp only [captureRegisters, Prod.mk.injEq] at hr
  obtain ⟨-, -, hphase⟩ := hr
  rcases captured_cases hx with rfl | ⟨hrx, rfl⟩
  · exact hm.congr rfl rfl
  · have hplain : isModeWait s.phase = false := by
      cases hp : s.phase with
      | wake m r =>
        obtain ⟨⟨hsleep, -⟩, -⟩ := (modesAgree_wake hp).1 hm
        exact absurd (hsleep.symm.trans hrx) (by decide)
      | txReady =>
        obtain ⟨⟨-, hstandby⟩, -⟩ := (modesAgree_txReady hp).1 hm
        exact absurd (hstandby.symm.trans hrx) (by decide)
      | txSent =>
        obtain ⟨⟨-, htx⟩, -⟩ := (modesAgree_txSent hp).1 hm
        exact absurd (htx.symm.trans hrx) (by decide)
      | _ => rfl
    have entered : Settled (chipReadPayloadReady (capEntry s)) :=
      ((modesAgree_plain hplain).1 hm).congr (by simp [modeRegisters, chipReadPayloadReady_eq])
    refine (modesAgree_plain (by rw [hphase, hplain])).2 ((settled_captureFrame entered).congr ?_)
    simp [modeRegisters, sampleRssi, chipReadRssi_eq]

theorem modesAgree_writeIdle {s : State} (r : HostReg) (v : Word) (hs : SequencerLegal s) (hm : ModesAgree s)
    (hb : s.busy = false) : ModesAgree (writeIdle r v s) := by
  obtain ⟨idle, -⟩ := hs
  cases r with
  | cmd => exact hm.congr rfl (idle hb).symm
  | argLen | argPtr | argTmo | argFreq => exact hm.congr rfl rfl
  | result | status | faultInfo => exact hm

/-- Reset ends in Standby with the amplifiers off (R340). -/
theorem modesAgree_resetEvent (s : State) : ModesAgree (resetEvent s) := by
  refine (modesAgree_plain rfl).2 ⟨rfl, fun _ => ⟨fun h => ?_, fun _ => rfl⟩, fun _ => rfl⟩
  exact absurd h (by simp [resetEvent, State.reset])

/-- Settles O54: a unit of a command lands with the modes in agreement, a capture returns to the mode it found, and no
other move writes a mode. -/
theorem modesStayAgreed : Obligations.ModesStayAgreed := by
  intro s hs hm t ht
  have both : Ensures (step s) fun t => SequencerLegal t ∧ ModesAgree t := by
    refine ensures_step ?_ ⟨hs, hm⟩
      (fun s u ⟨hs, hm⟩ hx => ⟨sequencerLegal_of_capture hs hx, modesAgree_of_capture hm hx⟩)
      (fun s i u ⟨hs, hm⟩ hb hd hx => ?_)
      (fun s c ⟨hs, hm⟩ hb => ⟨sequencerLegal_raiseFault c hs hb, hm.congr rfl rfl⟩)
      (fun s r v ⟨hs, hm⟩ hb => ⟨sequencerLegal_writeIdle r v hs hb, modesAgree_writeIdle r v hs hm hb⟩)
      (fun _ s => ⟨sequencerLegal_resetEvent s, modesAgree_resetEvent s⟩)
    · rintro s t he ⟨hs, hm⟩
      refine ⟨sequencerLegal_engineOnly s t he hs, ?_⟩
      rw [he]
      exact hm.congr rfl rfl
    · have lands := lands_of_exec (begun_of_legal (A := True) hs hb hd fun _ => hm) hx
      exact ⟨lands.legal, lands.modes trivial⟩
  obtain ⟨-, agreed⟩ := both t ht
  exact agreed

end Sys2Proof.Machine
end

section
/-! SUPPORT. The STATUS word bit by bit (R29), and the operands that name no mode (R34). -/

namespace Sys2Proof.Machine

/-- Every bit of the STATUS word: the four fields at their places, 0 elsewhere (R29). -/
theorem statusWord_getLsbD (s : State) (j : Nat) :
    (statusWord s).getLsbD j =
      if j = 0 then s.busy else if j = 1 then s.initDone
      else if j < 5 then s.mode.code.getLsbD (j - 2)
      else if j < 8 then false else s.faultCode.code.getLsbD (j - 8) := by
  have modeWidth : ∀ k, 3 ≤ k → s.mode.code.getLsbD k = false := fun k hk => BitVec.getLsbD_of_ge _ _ hk
  have codeWidth : ∀ k, 4 ≤ k → s.faultCode.code.getLsbD k = false := fun k hk => BitVec.getLsbD_of_ge _ _ hk
  unfold statusWord boolWord
  simp only [BitVec.getLsbD_or, BitVec.getLsbD_shiftLeft, BitVec.getLsbD_setWidth, BitVec.getLsbD_ofBool]
  grind

/-- A field of the STATUS word, from its bits. -/
theorem statusWord_extract {s : State} {lo n : Nat} {field : BitVec n}
    (h : ∀ j < n, (statusWord s).getLsbD (lo + j) = field.getLsbD j) : (statusWord s).extractLsb' lo n = field := by
  refine BitVec.eq_of_getLsbD_eq fun j hj => ?_
  rw [BitVec.getLsbD_extractLsb', h j hj]
  simp [hj]

/-- An operand above 4 names no mode (R34, R134). -/
theorem modeOfCode_eq_none {a : Byte} (h : 4 < a.toNat) : modeOfCode a = none := by
  have other : ∀ n : Byte, n.toNat ≤ 4 → a ≠ n := by
    rintro n hn rfl
    omega
  rw [modeOfCode, if_neg (other 0 (by decide)), if_neg (other 1 (by decide)), if_neg (other 2 (by decide)),
    if_neg (other 3 (by decide)), if_neg (other 4 (by decide))]

/-- Settles O12: the fields from the bits of the word, and the codes from their tables. -/
theorem statusFields : Obligations.StatusFields := by
  refine ⟨fun s => ⟨?_, ?_, ?_, ?_, ?_, ?_⟩, by decide, fun _ => modeOfCode_eq_none, by decide⟩
  · exact statusWord_getLsbD s 0
  · exact statusWord_getLsbD s 1
  all_goals
    refine statusWord_extract fun j hj => ?_
    rw [statusWord_getLsbD]
  · grind
  · grind
  · grind
  · rw [BitVec.getLsbD_of_ge _ _ (by omega)]
    grind

end Sys2Proof.Machine
end

section
/-! SUPPORT. The frame of a unit of every instruction: what the unit leaves alone, row by row, and the interrupt bits at
its end. Each routine has one rule. -/

namespace Sys2Proof.Machine

/-! ### The registers of the frame -/

/-- What no unit of any instruction writes: what HOST and ENV hold, the parameters, the command and its arguments. -/
def keptRegisters (s : State) :=
  (s.hostMem, s.clock, s.params, s.inputs, s.cmd, s.curCmd, s.argLen, s.argPtr, s.argTmo, s.argFreq, s.hostData,
    s.chip.air)

/-- The registers a raised fault writes besides BUSY (R303). -/
def faultRegisters (s : State) := (s.faultCode, s.faultInfo)

/-- The registers INIT alone writes (R30). -/
def identityRegisters (s : State) := (s.ownAddr, s.initDone)

/-- The network and the chip's copy of it (R31). -/
def networkRegisters (s : State) := (s.netId, s.chip.netId)

/-- The interrupt bits and the buffer that CAPTURE alone writes, IE apart (R45, R308). -/
def captureOnlyRegisters (s : State) := (s.irqPending, s.inIsr, s.slot.payload)

/-- What WriteFrame writes (R64, R151). -/
def transmitRegisters (s : State) := (s.chip.txFifo, s.chip.txFrame, s.chip.txLoaded, s.work.lAcc)

/-- The frame of a unit of i, and of every part of one: each register is left alone but by the rows that set it, and
outside CAPTURE an open window is open again. The defaults prove a field for an update of other registers. -/
structure UnitFrame (i : Instr) (s t : State) : Prop where
  kept : keptRegisters t = keptRegisters s := by rfl
  faults : faultRegisters t = faultRegisters s := by rfl
  identity : isInit i = false → identityRegisters t = identityRegisters s := by intros; rfl
  network : (∀ n, i ≠ .setNetwork n) → isInit i = false → networkRegisters t = networkRegisters s := by intros; rfl
  filter : (∀ on, i ≠ .setPromiscuous on) → isInit i = false → t.promisc = s.promisc := by intros; rfl
  power : (∀ p, i ≠ .setPowerLevel p) → t.chip.paSetting = s.chip.paSetting := by intros; rfl
  carrier : i ≠ .setFrequency → t.chip.carrier = s.chip.carrier := by intros; rfl
  key : (∀ k, i ≠ .setEncryptionKey k) → t.chip.aesKey = s.chip.aesKey := by intros; rfl
  captureOnly : i ≠ .capture → captureOnlyRegisters t = captureOnlyRegisters s := by intros; rfl
  result : writesResult i = false → t.result = s.result := by intros; rfl
  transmit : writesFrame i = false → transmitRegisters t = transmitRegisters s := by intros; rfl
  window : i ≠ .capture → WindowOpen s → WindowOpen t := by intro _ w; exact w

section
variable {i : Instr} {s t u : State} {k : State → State}

theorem UnitFrame.refl (i : Instr) (s : State) : UnitFrame i s s := {}

theorem UnitFrame.trans (h : UnitFrame i s t) (h' : UnitFrame i t u) : UnitFrame i s u where
  kept := h'.kept.trans h.kept
  faults := h'.faults.trans h.faults
  identity hi := (h'.identity hi).trans (h.identity hi)
  network hn hi := (h'.network hn hi).trans (h.network hn hi)
  filter hn hi := (h'.filter hn hi).trans (h.filter hn hi)
  power hn := (h'.power hn).trans (h.power hn)
  carrier hn := (h'.carrier hn).trans (h.carrier hn)
  key hn := (h'.key hn).trans (h.key hn)
  captureOnly hc := (h'.captureOnly hc).trans (h.captureOnly hc)
  result hr := (h'.result hr).trans (h.result hr)
  transmit hf := (h'.transmit hf).trans (h.transmit hf)
  window hc w := h'.window hc (h.window hc w)

/-! ### Bus transactions (R309, R315) -/

/-- A bus transaction has the frame of its effect, and outside the handler its BusEnd opens the window (R309). -/
theorem unitFrame_bus {op : ChipOp} {effect : State → State} (s : State) (h : ∀ t, UnitFrame i t (effect t)) :
    UnitFrame i s (bus op effect s) := by
  have frame : UnitFrame i (busBegin s) (effect (busBegin s)) := h _
  refine { frame with window := fun hc ⟨_, hout⟩ => ?_ }
  have inIsr : (effect (busBegin s)).inIsr = s.inIsr := congrArg (fun r => r.2.1) (frame.captureOnly hc)
  have outside : (effect (busBegin s)).inIsr = false := inIsr.trans hout
  exact ⟨by simp [bus, busEnd, outside], outside⟩

theorem unitFrame_readModeReady (s : State) : UnitFrame i s (chipReadModeReady s) := unitFrame_bus s fun _ => {}

theorem unitFrame_readRssi (s : State) : UnitFrame i s (chipReadRssi s) := unitFrame_bus s fun _ => {}

theorem unitFrame_readPayloadReady (s : State) : UnitFrame i s (chipReadPayloadReady s) := unitFrame_bus s fun _ => {}

theorem unitFrame_readPacketSent (s : State) : UnitFrame i s (chipReadPacketSent s) := unitFrame_bus s fun _ => {}

theorem unitFrame_rxRestart (s : State) : UnitFrame i s (chipRxRestart s) := unitFrame_bus s fun _ => {}

theorem unitFrame_setDio0Map (v : Bool) (s : State) : UnitFrame i s (chipSetDio0Map v s) := unitFrame_bus s fun _ => {}

theorem unitFrame_setHighPower (b : Bool) (s : State) : UnitFrame i s (chipSetHighPower b s) :=
  unitFrame_bus s fun _ => {}

/-! ### The shared routines -/

theorem unitFrame_setModeBus (m : Mode) (s : State) : UnitFrame i s (setModeBus m s) := by
  have commanded : UnitFrame i s (chipSetOpMode m s) := unitFrame_bus s fun _ => {}
  unfold setModeBus
  rcases applyHighPower_cases m (chipSetOpMode m s) with ⟨-, -, h⟩ | ⟨-, -, h⟩ | ⟨-, h⟩ <;> rw [h]
  · exact commanded.trans (unitFrame_setHighPower _ _)
  · exact commanded.trans (unitFrame_setHighPower _ _)
  · exact commanded

/-- A SetMode without a wait does nothing, or runs its transactions (R130, R136). -/
theorem unitFrame_setModeNow (m : Mode) (s : State) : UnitFrame i s (setModeNow m s) := by
  by_cases hm : s.mode = m
  · rw [setModeNow_same hm]
    exact .refl i s
  · rw [setModeNow_other hm]
    exact (unitFrame_setModeBus m s).trans {}

theorem unitFrame_rearm (s : State) : UnitFrame i s (rearm s) := by
  have cleared : UnitFrame i s (clearSlot s) := {}
  have read : UnitFrame i s (chipReadPayloadReady (clearSlot s)) := cleared.trans (unitFrame_readPayloadReady _)
  unfold rearm restartIfStale
  split
  · exact (read.trans (unitFrame_rxRestart _)).trans (unitFrame_setDio0Map _ _)
  · exact read.trans (unitFrame_setDio0Map _ _)

/-- Every transaction begins with BusBegin, so IE before ReceiveBegin does not matter (R309). -/
theorem rearm_masked (b : Bool) (s : State) : rearm { s with ie := b } = rearm s := rfl

/-- Nor does it before a SetMode that enters another mode. -/
theorem setModeNow_masked {m : Mode} {s : State} (hm : s.mode ≠ m) (b : Bool) :
    setModeNow m { s with ie := b } = setModeNow m s := by
  rw [setModeNow_other (s := { s with ie := b }) hm, setModeNow_other hm]
  rfl

theorem unitFrame_toPhase (p : Phase) (s : State) : UnitFrame i s (toPhase p s) := {}

theorem unitFrame_finish (s : State) : UnitFrame i s (finish s) := {}

/-- A row with a result may end with one (R108). -/
theorem unitFrame_finishWith (hi : writesResult i = true) (v : Word) (s : State) : UnitFrame i s (finishWith v s) :=
  { result := fun hn => absurd (hi.symm.trans hn) (by decide) }

theorem unitFrame_setModeThen {m : Mode} {r : Resume} (s : State) (hk : ∀ t, UnitFrame i t (k t)) :
    UnitFrame i s (setModeThen m r k s) := by
  rcases setModeThen_cases m r k s with ⟨-, -, h⟩ | ⟨-, h⟩ <;> rw [h]
  · exact (unitFrame_setModeBus m s).trans {}
  · exact (unitFrame_setModeNow m s).trans (hk _)

theorem unitFrame_receiveBeginThen {r : Resume} (s : State) (hk : ∀ t, UnitFrame i t (k t)) :
    UnitFrame i s (receiveBeginThen r k s) :=
  (unitFrame_rearm s).trans (unitFrame_setModeThen _ hk)

/-- Each branch of ReceiveDone ends the critical section it begins (R173). -/
theorem unitFrame_receiveDone {r : Resume} {kTrue kFalse : State → State} (s : State)
    (hT : ∀ t, UnitFrame i t (kTrue t)) (hF : ∀ t, UnitFrame i t (kFalse t)) :
    UnitFrame i s (receiveDone r kTrue kFalse s) := by
  rcases receiveDone_cases r kTrue kFalse s with ⟨hm, -, h⟩ | ⟨-, -, h⟩ | ⟨-, h⟩ <;> rw [h]
  · rw [setModeNow_masked (by simp [hm])]
    exact (unitFrame_setModeNow _ s).trans (hT _)
  · have armed : UnitFrame i s { s with ie := true } := { window := fun _ ⟨_, hout⟩ => ⟨rfl, hout⟩ }
    exact armed.trans (hF _)
  · rw [receiveBeginThen, rearm_masked]
    exact (unitFrame_rearm s).trans (unitFrame_setModeThen _ hF)

theorem unitFrame_wakePoll {m : Mode} (s : State) (hk : ∀ t, UnitFrame i t (k t)) :
    UnitFrame i s (wakePoll m k s) := by
  have polled : UnitFrame i s (chipReadModeReady s) := unitFrame_readModeReady s
  rcases wakePoll_cases m k s with ⟨-, h⟩ | ⟨-, h⟩ <;> rw [h]
  · have awake : UnitFrame i s { chipReadModeReady s with mode := m } := polled.trans {}
    exact awake.trans (hk _)
  · exact polled

/-! ### The channel-clear wait (R210 to R212) -/

theorem unitFrame_canSendEffect (s : State) : UnitFrame i s (canSendEffect s) := by
  have sampled : UnitFrame i s (chipReadRssi s) := unitFrame_readRssi s
  rcases canSendEffect_cases s with ⟨-, -, h⟩ | ⟨-, -, h⟩ | ⟨-, -, h⟩ <;> rw [h]
  · exact .refl i s
  · exact sampled
  · exact sampled.trans (unitFrame_setModeNow _ _)

theorem unitFrame_csmaTestSegment {bound : Word} {done : Bool → State → State} (s : State)
    (hk : ∀ b t, UnitFrame i t (done b t)) : UnitFrame i s (csmaTestSegment bound done s) := by
  have sense : UnitFrame i s (canSendEffect s) := unitFrame_canSendEffect s
  rcases csmaTestSegment_cases bound done s with ⟨-, h⟩ | ⟨-, -, h⟩ | ⟨-, -, h⟩ <;> rw [h]
  · exact sense.trans (hk _ _)
  · exact sense.trans (hk _ _)
  · exact sense.trans (unitFrame_toPhase _ _)

theorem unitFrame_csmaPollSegment (s : State) : UnitFrame i s (csmaPollSegment s) :=
  unitFrame_receiveDone s (unitFrame_toPhase _) (unitFrame_toPhase _)

/-! ### TransmitFrame and the ACK wait (R230 to R235) -/

theorem unitFrame_sendHead (s : State) : UnitFrame i s (sendHead s) :=
  (unitFrame_rxRestart s).trans (unitFrame_toPhase _ _)

/-- A row that writes a frame may run WriteFrame (R151). -/
theorem unitFrame_writeFrameThen (hi : writesFrame i = true) {target : Byte} {rq ar : Bool} (s : State)
    (hk : ∀ t, UnitFrame i t (k t)) : Ensures (writeFrameThen target rq ar k s) (UnitFrame i s) := by
  rcases writeFrameThen_cases target rq ar k s with ⟨-, h⟩ | ⟨payload, -, h⟩ <;> rw [h]
  · exact .fault _ _
  · have written : writesFrame i ≠ false := by simp [hi]
    have counted : UnitFrame i s { s with work := { s.work with lAcc := BitVec.ofNat 8 (payloadCount s) } } :=
      { transmit := fun h => absurd h written }
    have loaded : ∀ bytes t, UnitFrame i t (fifoWriteFrame bytes t) :=
      fun _ t => unitFrame_bus t fun _ => { transmit := fun h => absurd h written }
    exact .next ((counted.trans (loaded _ _)).trans (hk _))

theorem unitFrame_transmitReady (hi : writesFrame i = true) (x : Transmission) (s : State) :
    Ensures (transmitReady x s) (UnitFrame i s) := by
  have polled : UnitFrame i s (chipReadModeReady s) := unitFrame_readModeReady s
  rcases transmitReady_cases x s with ⟨-, h⟩ | ⟨-, h⟩ <;> rw [h]
  · have mapped : UnitFrame i s (chipSetDio0Map true (chipReadModeReady s)) :=
      polled.trans (unitFrame_setDio0Map _ _)
    exact fun u hu => mapped.trans (unitFrame_writeFrameThen hi _ (fun t => unitFrame_setModeThen t fun _ => {}) u hu)
  · exact .next polled

theorem unitFrame_transmitSent {x : Transmission} (s : State) (hx : ∀ t, UnitFrame i t (x.after t)) :
    UnitFrame i s (transmitSent x s) := by
  have polled : UnitFrame i s (chipReadPacketSent s) := unitFrame_readPacketSent s
  rcases transmitSent_cases x s with ⟨-, h⟩ | ⟨-, h⟩ <;> rw [h]
  · exact polled.trans (unitFrame_setModeThen _ hx)
  · exact polled

/-- The units of SEND's body (R230, R231). -/
theorem unitFrame_sendBody (hi : writesFrame i = true) {x : Transmission} (s : State)
    (hx : ∀ t, UnitFrame i t (x.after t)) : Ensures (sendBody x s) (UnitFrame i s) := by
  unfold sendBody
  split
  · exact .next {}
  · exact .next (unitFrame_csmaTestSegment s fun _ => unitFrame_toPhase _)
  · exact .next (unitFrame_csmaPollSegment s)
  · exact .next (unitFrame_setModeThen s fun _ => {})
  · exact unitFrame_transmitReady hi x s
  · exact .next (unitFrame_transmitSent s hx)
  · exact .next (unitFrame_wakePoll s (unitFrame_toPhase _))
  · exact .next (unitFrame_wakePoll s fun _ => {})
  · exact .next (unitFrame_wakePoll s fun _ => {})
  · exact .next (unitFrame_wakePoll s hx)
  · exact .fault _ _

theorem unitFrame_ackReceivedThen {src : Byte} {r : Resume} {k : Bool → State → State} (s : State)
    (hk : ∀ b t, UnitFrame i t (k b t)) : UnitFrame i s (ackReceivedThen src r k s) :=
  unitFrame_receiveDone s (fun t => hk _ t) (hk false)

theorem unitFrame_ackWaitSegment (hi : writesResult i = true) (target retries : Byte) (s : State) :
    UnitFrame i s (ackWaitSegment target retries s) := by
  rcases ackWaitSegment_cases target retries s with ⟨-, -, h⟩ | ⟨-, -, h⟩ | ⟨-, h⟩ <;> rw [h]
  · exact unitFrame_finishWith hi _ s
  · exact unitFrame_toPhase _ s
  · refine unitFrame_ackReceivedThen s fun b t => ?_
    cases b
    · exact unitFrame_toPhase _ t
    · exact unitFrame_finishWith hi _ t

/-! ### Phase 0 -/

/-- The end of a unit: a raised fault and nothing else, or the frame of the instruction. -/
def UnitEnds (i : Instr) (s t : State) : Prop := UnitFrame i s t ∨ ∃ c, t = raiseFault c s

theorem Ensures.unitEnds {o : Result} (h : Ensures o (UnitFrame i s)) : Ensures o (UnitEnds i s) :=
  fun u hu => .inl (h u hu)

/-- Phase 0 raises a fault, or is the first segment (R302, R303). -/
theorem unitEnds_started {j : Instr} {segment : State → Result} (h : Ensures (segment s) (UnitFrame i s)) :
    Ensures (started j s segment) (UnitEnds i s) := by
  rcases started_cases j s segment with ⟨c, -, hx⟩ | ⟨-, hx⟩ <;> rw [hx]
  · exact .next (.inr ⟨c, rfl⟩)
  · exact h.unitEnds

theorem unitEnds_oneSegment (h : UnitFrame i s (k s)) : Ensures (started i s fun s => .next (k s)) (UnitEnds i s) :=
  unitEnds_started (.next h)

end

/-! ### The configuration commands (R270 to R276) -/

/-- INIT writes the identity, the network and the filter (R270). -/
theorem unitFrame_initEngine (addr net : Byte) (s : State) :
    UnitFrame (.init addr net) s (initEngine addr net s) := by
  have hi : isInit (.init addr net) ≠ false := by simp [isInit]
  have addressed : UnitFrame (.init addr net) s { s with ownAddr := addr, netId := net } :=
    { identity := fun h => absurd h hi, network := fun _ h => absurd h hi }
  have joined : ∀ t, UnitFrame (.init addr net) t (chipSetSyncNetwork net t) :=
    fun t => unitFrame_bus t fun _ => { network := fun _ h => absurd h hi }
  have filtered : ∀ t : State, UnitFrame (.init addr net) t { t with promisc := false } :=
    fun _ => { filter := fun _ h => absurd h hi }
  have written : UnitFrame (.init addr net) s (initBus addr net s) := by
    unfold initBus
    rcases initHighPower_cases (chipSetDio0Map false _) with ⟨-, h⟩ | ⟨-, h⟩ <;> rw [h]
    · exact (((addressed.trans (joined _)).trans (filtered _)).trans (unitFrame_setDio0Map _ _)).trans
        (unitFrame_setHighPower _ _)
    · exact ((addressed.trans (joined _)).trans (filtered _)).trans (unitFrame_setDio0Map _ _)
  have ended : ∀ t, UnitFrame (.init addr net) t (finish { clearSlot t with initDone := true }) :=
    fun _ => { identity := fun h => absurd h hi }
  rw [initEngine_eq]
  exact (written.trans (unitFrame_setModeNow .standby _)).trans (ended _)

theorem unitFrame_setNetwork (net : Byte) (s : State) :
    UnitFrame (.setNetwork net) s (finish (chipSetSyncNetwork net { s with netId := net })) := by
  have named : UnitFrame (.setNetwork net) s { s with netId := net } := { network := fun h _ => absurd rfl (h net) }
  have joined : ∀ t, UnitFrame (.setNetwork net) t (chipSetSyncNetwork net t) :=
    fun t => unitFrame_bus t fun _ => { network := fun h _ => absurd rfl (h net) }
  exact (named.trans (joined _)).trans (unitFrame_finish _)

theorem unitFrame_setPromiscuous (on : Bool) (s : State) :
    UnitFrame (.setPromiscuous on) s (finish { s with promisc := on }) where
  filter h _ := absurd rfl (h on)

theorem unitFrame_setPowerLevel (level : Byte) (v : Nat) (s : State) :
    UnitFrame (.setPowerLevel level) s (finish (chipSetPaLevel v s)) := by
  have levelled : UnitFrame (.setPowerLevel level) s (chipSetPaLevel v s) :=
    unitFrame_bus s fun _ => { power := fun h => absurd rfl (h level) }
  exact levelled.trans (unitFrame_finish _)

theorem unitFrame_setFrequency (hz : Word) (s : State) :
    UnitFrame .setFrequency s (finish (chipSetFrequency hz s)) := by
  have tuned : UnitFrame .setFrequency s (chipSetFrequency hz s) :=
    unitFrame_bus s fun _ => { carrier := fun h => absurd rfl h }
  exact tuned.trans (unitFrame_finish _)

theorem unitEnds_setEncryptionKey (key : Bool) (s : State) :
    Ensures (execSetEncryptionKey key s) (UnitEnds (.setEncryptionKey key) s) := by
  refine unitEnds_started ?_
  cases key with
  | false =>
    have off : UnitFrame (.setEncryptionKey false) s (chipSetAesOff s) :=
      unitFrame_bus s fun _ => { key := fun h => absurd rfl (h false) }
    exact .next (off.trans (unitFrame_finish _))
  | true =>
    cases keyBytes s with
    | none => exact .fault _ _
    | some k =>
      have keyed : UnitFrame (.setEncryptionKey true) s (chipSetAesKey k s) :=
        unitFrame_bus s fun _ => { key := fun h => absurd rfl (h true) }
      exact .next (keyed.trans (unitFrame_finish _))

/-! ### The commands of several segments -/

theorem unitEnds_slotCommand {i : Instr} (hi : writesResult i = true) (value : Slot → Word) (s : State) :
    Ensures (slotCommand i value s) (UnitEnds i s) :=
  unitEnds_oneSegment (k := fun s => finishWith (value s.slot) s) (unitFrame_finishWith hi _ s)

theorem unitEnds_setMode (code : Byte) (s : State) : Ensures (execSetMode code s) (UnitEnds (.setMode code) s) := by
  unfold execSetMode
  split
  · unfold setModeCommand
    split
    · exact unitEnds_started (.next (unitFrame_setModeThen s unitFrame_finish))
    · exact (Ensures.next (unitFrame_wakePoll s unitFrame_finish)).unitEnds
    · exact .fault _ _
  · exact unitEnds_started (.next (.refl _ s))

theorem unitEnds_receiveBegin (s : State) : Ensures (execReceiveBegin s) (UnitEnds .receiveBegin s) := by
  unfold execReceiveBegin
  split
  · exact unitEnds_started (.next (unitFrame_receiveBeginThen s unitFrame_finish))
  · exact (Ensures.next (unitFrame_wakePoll s unitFrame_finish)).unitEnds
  · exact .fault _ _

theorem unitEnds_pollReceived (s : State) : Ensures (execPollReceived s) (UnitEnds .pollReceived s) := by
  unfold execPollReceived
  split
  · exact unitEnds_started (.next (unitFrame_receiveDone s (unitFrame_finishWith rfl _) (unitFrame_finishWith rfl _)))
  · exact (Ensures.next (unitFrame_wakePoll s (unitFrame_finishWith rfl _))).unitEnds
  · exact .fault _ _

theorem unitEnds_ackReceived (src : Byte) (s : State) :
    Ensures (execAckReceived src s) (UnitEnds (.ackReceived src) s) := by
  unfold execAckReceived
  split
  · exact unitEnds_started (.next (unitFrame_ackReceivedThen s fun _ => unitFrame_finishWith rfl _))
  · exact (Ensures.next (unitFrame_wakePoll s (unitFrame_finishWith rfl _))).unitEnds
  · exact .fault _ _

theorem unitEnds_awaitClearChannel (s : State) :
    Ensures (execAwaitClearChannel s) (UnitEnds .awaitClearChannel s) := by
  unfold execAwaitClearChannel
  split
  · exact unitEnds_started (.next {})
  · exact (Ensures.next (unitFrame_csmaTestSegment s fun _ => unitFrame_finishWith rfl _)).unitEnds
  · exact (Ensures.next (unitFrame_csmaPollSegment s)).unitEnds
  · exact (Ensures.next (unitFrame_wakePoll s (unitFrame_toPhase _))).unitEnds
  · exact .fault _ _

theorem unitEnds_send (target : Byte) (reqAck : Bool) (s : State) :
    Ensures (execSend target reqAck s) (UnitEnds (.send target reqAck) s) := by
  unfold execSend
  split
  · exact unitEnds_started (.next (unitFrame_sendHead s))
  · exact (unitFrame_sendBody rfl s unitFrame_finish).unitEnds

theorem unitEnds_sendAck (s : State) : Ensures (execSendAck s) (UnitEnds .sendAck s) := by
  unfold execSendAck
  split
  · have saved : UnitFrame .sendAck s (saveSlot s) := {}
    exact unitEnds_started (.next (saved.trans (unitFrame_sendHead _)))
  · exact (unitFrame_sendBody rfl s fun _ => {}).unitEnds

theorem unitEnds_sendWithRetry (target retries : Byte) (s : State) :
    Ensures (execSendWithRetry target retries s) (UnitEnds (.sendWithRetry target retries) s) := by
  unfold execSendWithRetry
  split
  · have counted : UnitFrame (.sendWithRetry target retries) s { s with work := { s.work with attempt := 0 } } := {}
    exact unitEnds_started (.next (counted.trans (unitFrame_sendHead _)))
  · exact (Ensures.next (unitFrame_sendHead s)).unitEnds
  · exact (Ensures.next (unitFrame_ackWaitSegment rfl target retries s)).unitEnds
  · exact (Ensures.next (unitFrame_wakePoll s (unitFrame_toPhase _))).unitEnds
  · exact (unitFrame_sendBody rfl s fun _ => {}).unitEnds

/-! ### The capture and the frame rows (R175, R316) -/

/-- The clauses of the frame that except CAPTURE ask nothing of it. -/
theorem of_not_capture {p : Prop} (h : Instr.capture ≠ .capture) : p := absurd rfl h

theorem unitFrame_captureAccept (len : Byte) (s : State) : UnitFrame .capture s (captureAccept len s) := by
  rw [captureAccept_eq]
  refine UnitFrame.trans ?_ (unitFrame_setModeNow .rx _)
  exact { captureOnly := of_not_capture, window := of_not_capture }

theorem unitFrame_captureReject (s : State) : UnitFrame .capture s (captureReject s) := by
  rw [captureReject_eq]
  refine UnitFrame.trans (UnitFrame.trans ?_ (unitFrame_rearm _)) (unitFrame_setModeNow .rx _)
  exact { captureOnly := of_not_capture, window := of_not_capture }

/-- The frame part of a capture (R175). -/
theorem unitFrame_captureFrame (s : State) : UnitFrame .capture s (captureFrame s) := by
  have standby : UnitFrame .capture s (setModeNow .standby s) := unitFrame_setModeNow _ s
  rcases captureFrame_cases s with ⟨-, h⟩ | ⟨-, h⟩ <;> rw [h]
  · exact standby.trans (unitFrame_captureAccept _ _)
  · exact standby.trans (unitFrame_captureReject _)

theorem unitFrame_sampleRssi (s : State) : UnitFrame .capture s (sampleRssi s) := by
  have stored : ∀ (t : State) v, UnitFrame .capture t { t with slot := { t.slot with rssi := v } } := fun _ _ => {}
  exact (unitFrame_readRssi s).trans (stored _ _)

theorem unitFrame_execCapture (s : State) : Ensures (execCapture s) (UnitFrame .capture s) := by
  have entry : UnitFrame .capture s (capEntry s) := { captureOnly := of_not_capture, window := of_not_capture }
  have entered : UnitFrame .capture s (chipReadPayloadReady (capEntry s)) := entry.trans (unitFrame_readPayloadReady _)
  have left : ∀ t, UnitFrame .capture t (capExit t) :=
    fun _ => { captureOnly := of_not_capture, window := of_not_capture }
  rcases execCapture_cases s with ⟨-, -, h⟩ | ⟨-, h⟩ <;> rw [h]
  · exact .next (((entered.trans (unitFrame_captureFrame _)).trans (unitFrame_sampleRssi _)).trans (left _))
  · exact .next (entered.trans (left _))

theorem unitFrame_frameArrives (i : Instr) (bytes : List Byte) (s : State) :
    Ensures (frameArrives bytes s) (UnitFrame i s) := by
  rcases frameArrives_cases bytes s with ⟨-, -, -, h⟩ | ⟨-, -, h⟩ | ⟨-, h⟩ <;> rw [h]
  · exact .next {}
  · exact .next (.refl i s)
  · exact fun _ hu => nomatch hu

/-! ### Every instruction -/

/-- A unit of any instruction raises a fault and does nothing else, or keeps the instruction's frame. -/
theorem unitEnds_exec (i : Instr) (s : State) : Ensures (exec i s) (UnitEnds i s) := by
  unfold exec
  cases i with
  | init addr net => exact unitEnds_oneSegment (unitFrame_initEngine addr net s)
  | setNetwork net => exact unitEnds_oneSegment (unitFrame_setNetwork net s)
  | setPromiscuous on => exact unitEnds_oneSegment (unitFrame_setPromiscuous on s)
  | setPowerLevel level => exact unitEnds_started (.next (unitFrame_setPowerLevel level _ s))
  | setFrequency => exact unitEnds_started (.next (unitFrame_setFrequency _ s))
  | getFrequency =>
    have read : UnitFrame .getFrequency s (chipReadFrequency s) := unitFrame_bus s fun _ => {}
    exact unitEnds_started (.next (read.trans (unitFrame_finishWith rfl _ _)))
  | setEncryptionKey key => exact unitEnds_setEncryptionKey key s
  | sleep => exact unitEnds_started (.next ((unitFrame_setModeNow _ s).trans (unitFrame_finish _)))
  | send target reqAck => exact unitEnds_send target reqAck s
  | sendWithRetry target retries => exact unitEnds_sendWithRetry target retries s
  | sendAck => exact unitEnds_sendAck s
  | ackReceived src => exact unitEnds_ackReceived src s
  | ackRequested => exact unitEnds_slotCommand rfl _ s
  | pollReceived => exact unitEnds_pollReceived s
  | setMode code => exact unitEnds_setMode code s
  | receiveBegin => exact unitEnds_receiveBegin s
  | canSend => exact unitEnds_started (.next ((unitFrame_canSendEffect s).trans (unitFrame_finishWith rfl _ _)))
  | awaitClearChannel => exact unitEnds_awaitClearChannel s
  | writeFrame target reqAck ackReply => exact unitEnds_started (unitFrame_writeFrameThen rfl s unitFrame_finish)
  | getSender => exact unitEnds_slotCommand rfl _ s
  | getTarget => exact unitEnds_slotCommand rfl _ s
  | getLength => exact unitEnds_slotCommand rfl _ s
  | getRssi => exact unitEnds_slotCommand rfl _ s
  | getPayloadByte index => exact unitEnds_slotCommand rfl _ s
  | getAckFlags => exact unitEnds_slotCommand rfl _ s
  | capture => exact (unitFrame_execCapture s).unitEnds
  | frameData f => exact (unitFrame_frameArrives _ _ s).unitEnds
  | frameDataReqack f => exact (unitFrame_frameArrives _ _ s).unitEnds
  | frameAck f => exact (unitFrame_frameArrives _ _ s).unitEnds
  | frameAckReqack f => exact (unitFrame_frameArrives _ _ s).unitEnds

end Sys2Proof.Machine
end

section
/-! SUPPORT. The interrupt window after every step (R70), and the frame of every instruction. -/

namespace Sys2Proof.Machine

/-- A unit of a command ends with the window open when it began so. -/
theorem windowOpen_of_exec {i : Instr} {s u : State} (hc : isCommand i = true) (hs : WindowOpen s)
    (hx : exec i s = .next u) : WindowOpen u := by
  rcases unitEnds_exec i s u hx with h | ⟨c, rfl⟩
  · refine h.window ?_ hs
    rintro rfl
    exact absurd hc (by decide)
  · exact hs

/-- Every capture run ends with the window open: its exit writes both bits (R309). -/
theorem windowOpen_of_capture {s u : State} (hx : execCapture s = .next u) : WindowOpen u := by
  rcases captured_cases hx with rfl | ⟨-, rfl⟩ <;> exact ⟨rfl, rfl⟩

/-- Settles O51: a command's unit closes every critical section it opens, a capture's exit opens the window, and no move
of HOST or ENV writes either bit. -/
theorem windowStaysOpen : Obligations.WindowStaysOpen := by
  intro s hs
  refine ensures_step ?_ hs (fun _ _ _ => windowOpen_of_capture)
    (fun _ _ _ hs _ hd hx => windowOpen_of_exec (isCommand_of_decode hd) hs hx) (fun _ _ hs _ => hs) ?_
    (fun _ _ => ⟨rfl, rfl⟩)
  · intro s t he hs
    rw [he]
    exact hs
  · intro s r v hs _
    cases r <;> exact hs

/-- Settles O46: a fault writes its three registers, and otherwise the clauses are the fields of the instruction's
frame. -/
theorem execFrame : Obligations.ExecFrame := by
  intro i s t ht
  rcases unitEnds_exec i s t ht with h | ⟨c, rfl⟩
  · refine ⟨?_, fun hi => ?_, fun hn hi => ?_, h.filter, h.power, h.carrier, h.key, fun hc => ?_, h.result,
      fun hf => ?_, .inl ?_⟩
    · simpa [keptRegisters] using h.kept
    · simpa [identityRegisters] using h.identity hi
    · simpa [networkRegisters] using h.network hn hi
    · simpa [captureOnlyRegisters] using h.captureOnly hc
    · simpa [transmitRegisters] using h.transmit hf
    · simpa [faultRegisters] using h.faults
  · refine ⟨?_, ?_, ?_, ?_, ?_, ?_, ?_, ?_, ?_, ?_, .inr rfl⟩ <;> simp

end Sys2Proof.Machine
end

section
/-! SUPPORT. What a step does to the engine's registers, said once for the statements that compare the state before and
after: one of six moves, and then what HOST and ENV hold. -/

namespace Sys2Proof.Machine

/-- The engine's part of a step: nothing, a capture, a unit of the running command, a fault while BUSY, a host write
while idle, or the reset. -/
inductive EngineMove (s u : State) : Prop where
  | idle (h : u = afterMove s)
  | capture (h : execCapture (afterMove s) = .next u)
  | command (i : Instr) (hb : s.busy = true) (hd : decodeCommand s.curCmd = .ok i) (h : exec i (afterMove s) = .next u)
  | raise (c : FaultCode) (hb : s.busy = true) (h : u = raiseFault c (afterMove s))
  | write (r : HostReg) (v : Word) (hb : s.busy = false) (h : u = writeIdle r v (afterMove s))
  | reset (hr : ¬NoReset s) (h : u = resetEvent (afterMove s))

/-- The engine's own unit is one of the engine's moves, followed by the edge latch (R307, R308). -/
theorem engineMove_of_engineUnit {s t : State} (h : engineUnit (afterMove s) = .next t) :
    ∃ u, EngineMove s u ∧ EngineSame u t := by
  rcases engineUnit_cases h with ⟨-, u, hx, rfl⟩ | ⟨-, -, hb, ⟨i, u, hd, hx, rfl⟩ | ⟨e, -, rfl⟩⟩ | ⟨-, -, rfl⟩
  · exact ⟨u, .capture hx, engineSame_latchEdge _ u⟩
  · exact ⟨u, .command i hb hd hx, engineSame_latchEdge _ u⟩
  · exact ⟨_, .raise _ hb rfl, engineSame_latchEdge _ _⟩
  · exact ⟨_, .idle rfl, rfl⟩

/-- A host write is one of the engine's moves (R62, R305). -/
theorem engineMove_of_hostWrite (r : HostReg) (v : Word) (s : State) : EngineMove s (hostWrite r v (afterMove s)) := by
  rcases hostWrite_cases r v (afterMove s) with ⟨-, h⟩ | ⟨-, hb, h⟩ | ⟨-, hb, h⟩ <;> rw [h]
  · exact .idle rfl
  · exact .raise _ hb rfl
  · exact .write r v hb rfl

/-- Every step makes one of the engine's moves, and then writes at most what HOST and ENV hold. -/
theorem engineMove_of_step {s t : State} (h : step s = .next t) : ∃ u, EngineMove s u ∧ EngineSame u t := by
  rcases step_cases h with ⟨-, hu⟩ | ⟨-, -, v, r, -, -, rfl⟩ | ⟨-, -, r, -, -, rfl⟩ | ⟨a, b, -, -, rfl⟩ |
    ⟨hr, rfl⟩ | ⟨-, rfl⟩ | ⟨-, bytes, -, rfl | ⟨-, -, -, rfl⟩⟩ | ⟨-, rfl | ⟨-, -, -, rfl⟩⟩ | ⟨-, rfl⟩
  · exact engineMove_of_engineUnit hu
  · exact ⟨_, engineMove_of_hostWrite r v s, engineSame_latchEdge _ _⟩
  · exact ⟨_, .idle rfl, rfl⟩
  · exact ⟨_, .idle rfl, rfl⟩
  · exact ⟨_, .reset (fun hn => hn hr) rfl, rfl⟩
  · exact ⟨_, .idle rfl, rfl⟩
  · exact ⟨_, .idle rfl, rfl⟩
  · exact ⟨_, .idle rfl, by rw [latchEdge_eq]; rfl⟩
  · exact ⟨_, .idle rfl, rfl⟩
  · exact ⟨_, .idle rfl, by rw [latchEdge_eq]; rfl⟩
  · exact ⟨_, .idle rfl, rfl⟩

/-- No unit of any instruction writes what HOST and ENV hold, the command or its arguments. -/
theorem keptRegisters_of_exec {i : Instr} {s u : State} (hx : exec i s = .next u) :
    keptRegisters u = keptRegisters s := by
  rcases unitEnds_exec i s u hx with h | ⟨c, rfl⟩
  · exact h.kept
  · rfl

/-- The command word and its arguments (R73). -/
def commandRegisters (s : State) := (s.curCmd, s.cmd, s.argLen, s.argPtr, s.argTmo, s.argFreq)

theorem commandRegisters_of_exec {i : Instr} {s u : State} (hx : exec i s = .next u) :
    commandRegisters u = commandRegisters s := by
  have hk := keptRegisters_of_exec hx
  simp only [keptRegisters, Prod.mk.injEq] at hk
  obtain ⟨-, -, -, -, hcmd, hcur, hlen, hptr, htmo, hfreq, -⟩ := hk
  simp only [commandRegisters, hcmd, hcur, hlen, hptr, htmo, hfreq]

/-- Settles O60: of the engine's moves only a host write while idle and the reset write these registers. -/
theorem runningCommandIsLatched : Obligations.RunningCommandIsLatched := by
  intro s hb hn t ht
  obtain ⟨u, move, same⟩ := engineMove_of_step ht
  have kept : commandRegisters u = commandRegisters s := by
    cases move with
    | idle h => rw [h]; rfl
    | capture h => exact (commandRegisters_of_exec (i := .capture) h).trans rfl
    | command i _ _ h => exact (commandRegisters_of_exec h).trans rfl
    | raise c _ h => rw [h]; rfl
    | write r v hidle _ => exact absurd (hb.symm.trans hidle) (by decide)
    | reset hr _ => exact absurd hn hr
  rw [same]
  simpa [commandRegisters] using kept

end Sys2Proof.Machine
end

section
/-! SUPPORT. The host's own moves: stores in its data memory (R63), and accesses to the register block (R61, R62). -/

namespace Sys2Proof.Machine

/-- A listed outside move is the next step (R68). -/
theorem step_of_inputs {s : State} {i : Input} {rest : List Input} (h : s.inputs = i :: rest) :
    step s = inputUnit i (afterMove s) := by
  simp [step, afterMove, h]

theorem afterMove_of_inputs {s : State} {i : Input} {rest : List Input} (h : s.inputs = i :: rest) :
    afterMove s = { s with inputs := rest } := by
  simp [afterMove, h]

/-! ### Host data memory (R60, R63) -/

/-- A read after a store: the stored byte at its address, the old byte at every other (R63). -/
theorem memRead_memWrite {m : List Host.Cell} {lo : Nat} (h : Memory.wfFrom lo m = true) (a : Nat) (b : Byte) (x : Nat) :
    memRead (memWrite m a b) x = if x = a then b else memRead m x := by
  induction m generalizing lo with
  | nil => exact memRead_memCons b x rfl
  | cons c m ih =>
    obtain ⟨a', b'⟩ := c
    simp only [Memory.wfFrom, Bool.and_eq_true, decide_eq_true_eq] at h
    obtain ⟨⟨⟨-, hsize⟩, hb'⟩, htail⟩ := h
    unfold memWrite
    split
    · next hlt =>
      refine memRead_memCons b x ?_
      simpa [Memory.wfFrom, htail, hsize, hlt] using hb'
    · split
      · next heq =>
        subst heq
        rw [memRead_memCons b x htail]
        split <;> simp [memRead, *]
      · next hne =>
        simp only [memRead, ih htail]
        grind

/-- Settles O47: the store is the step, a read after it is `memRead_memWrite`, and the form is `memWrite_wf`. -/
theorem hostStoreReadsBack : Obligations.HostStoreReadsBack := by
  intro s a b rest hi hb hw
  have stored : step s = .next { s with inputs := rest, hostMem := memWrite s.hostMem a.toNat b } := by
    rw [step_of_inputs hi, afterMove_of_inputs hi]
    simp [inputUnit, hostStore, hb]
  have read : ∀ x, memRead (memWrite s.hostMem a.toNat b) x = if x = a.toNat then b else memRead s.hostMem x :=
    memRead_memWrite hw a.toNat b
  refine ⟨_, stored, ?_, fun x hx => ?_, memWrite_wf a b hw, rfl⟩
  · rw [read, if_pos rfl]
  · rw [read, if_neg hx]

/-! ### The register block (R61, R62, R75) -/

/-- Settles O10: the three cases of a host write, register by register while idle. -/
theorem hostRegisterRules : Obligations.HostRegisterRules := by
  intro s v
  refine ⟨fun hf r => ?_, fun hf hb r => ?_, fun hf hb => ?_, ⟨rfl, rfl, rfl, rfl, rfl, rfl, rfl⟩, fun _ => rfl⟩
  · simp [hostWrite, hf]
  · simp [hostWrite, hf, hb, raiseFault]
  · have idle : ∀ r, hostWrite r v s = writeIdle r v s := fun r => by simp [hostWrite, hf, hb]
    have low : ∀ n ≤ 32, v.setWidth n = v.extractLsb' 0 n := fun n hn => BitVec.setWidth_eq_extractLsb' hn
    simp only [idle, writeIdle, startCommand, low 8 (by decide), low 16 (by decide), and_self]

/-- The k-th word of the block is its k-th register (R75). -/
theorem hostReg_of_index (k : Fin 8) :
    hostReg 32 (4 * k.val) =
      some [HostReg.cmd, .argLen, .argPtr, .argTmo, .argFreq, .result, .status, .faultInfo][k] := by
  revert k
  decide

/-- The list of moves is no register. -/
theorem hostRead_afterMove (r : HostReg) (s : State) : hostRead r (afterMove s) = hostRead r s := by
  cases r <;> rfl

theorem step_hostWrite_refused {s : State} {width offset : Nat} {v : Word} {rest : List Input}
    (hi : s.inputs = .hostWrite width offset v :: rest) (hr : hostReg width offset = none) :
    step s = .refused .hostAccess := by
  rw [step_of_inputs hi]
  simp [inputUnit, hr]

theorem step_hostRead_refused {s : State} {width offset : Nat} {rest : List Input}
    (hi : s.inputs = .hostRead width offset :: rest) (hr : hostReg width offset = none) :
    step s = .refused .hostAccess := by
  rw [step_of_inputs hi]
  simp [inputUnit, hr]

theorem step_hostWrite {s : State} {width offset : Nat} {v : Word} {rest : List Input} {r : HostReg}
    (hi : s.inputs = .hostWrite width offset v :: rest) (hr : hostReg width offset = some r) :
    step s = .next (latchEdge (afterMove s) (hostWrite r v (afterMove s))) := by
  rw [step_of_inputs hi]
  simp [inputUnit, hr]

/-- A read writes what it returns to the host, and moves no line, so the latch sees no edge (R76, R307). -/
theorem step_hostRead {s : State} {width offset : Nat} {rest : List Input} {r : HostReg}
    (hi : s.inputs = .hostRead width offset :: rest) (hr : hostReg width offset = some r) :
    step s = .next { s with inputs := rest, hostData := hostRead r s } := by
  have still : latchEdge (afterMove s) (hostReadUnit r (afterMove s)) = hostReadUnit r (afterMove s) :=
    latchEdge_of_dio0_eq rfl
  rw [step_of_inputs hi]
  simp only [inputUnit, hr, latched_next, still]
  rw [hostReadUnit, hostRead_afterMove, afterMove_of_inputs hi]

/-- Settles O11: an access reaches the register `hostReg` names, and is refused when it names none. -/
theorem hostAccessStep : Obligations.HostAccessStep := by
  refine fun s width offset v rest => ⟨fun h => ?_, ?_⟩
  · have hr : hostReg width offset = none := hostReg_eq_none.2 h
    exact ⟨fun hi => step_hostWrite_refused hi hr, fun hi => step_hostRead_refused hi hr⟩
  · rintro k rfl rfl
    exact ⟨fun hi => step_hostWrite hi (hostReg_of_index k), fun hi => step_hostRead hi (hostReg_of_index k)⟩

end Sys2Proof.Machine
end

section
/-! SUPPORT. The opcode table and the words that match its rows: a word is its four fields, a row's mask keeps the whole
OPC, and no two rows share one (R100, R102). -/

namespace Sys2Proof

/-! ### The fields of a command word (R100) -/

/-- A word is its four fields. -/
theorem cmdWord_fields (w : Word) : cmdWord (opcField w) (aField w) (bField w) (fField w) = w := by
  unfold cmdWord opcField aField bField fField
  rw [BitVec.extractLsb'_append_extractLsb'_eq_extractLsb' (by rfl),
    BitVec.extractLsb'_append_extractLsb'_eq_extractLsb' (by rfl),
    BitVec.extractLsb'_append_extractLsb'_eq_extractLsb' (by rfl)]
  simp

theorem fField_cmdWord (o a b f : Byte) : fField (cmdWord o a b f) = f := BitVec.extractLsb'_append_eq_right

/-- The fields but F are those of the word without F. -/
theorem extractLsb'_cmdWord {n : Nat} (h : 8 ≤ n) (o a b f : Byte) :
    (cmdWord o a b f).extractLsb' n 8 = ((o ++ a : BitVec 16) ++ b : BitVec 24).extractLsb' (n - 8) 8 :=
  BitVec.extractLsb'_append_eq_of_le (xlo := f) h

theorem bField_cmdWord (o a b f : Byte) : bField (cmdWord o a b f) = b :=
  (extractLsb'_cmdWord (by decide) o a b f).trans BitVec.extractLsb'_append_eq_right

theorem aField_cmdWord (o a b f : Byte) : aField (cmdWord o a b f) = a := by
  have low : ((o ++ a : BitVec 16) ++ b : BitVec 24).extractLsb' 8 8 = (o ++ a : BitVec 16).extractLsb' 0 8 :=
    BitVec.extractLsb'_append_eq_of_le (xlo := b) (by decide)
  exact (extractLsb'_cmdWord (by decide) o a b f).trans (low.trans BitVec.extractLsb'_append_eq_right)

/-! ### Rows and their words (R102, R103) -/

/-- A row's mask keeps the whole OPC, and its match has the row's. -/
theorem row_opc : ∀ r ∈ opcodeTable, opcField r.mask = 0xFF ∧ opcField r.value = r.opc := by decide

/-- A row's match has no bit in the fields, so a word that matches has none of the bits the row does not use. -/
theorem row_fields : ∀ r ∈ opcodeTable, aField r.value = 0 ∧ bField r.value = 0 ∧ fField r.value = 0 := by decide

theorem row_opcs_nodup : (opcodeTable.map OpcodeRow.opc).Nodup := by decide

/-- No two rows have the same OPC. -/
theorem row_eq_of_opc {r r' : OpcodeRow} (hr : r ∈ opcodeTable) (hr' : r' ∈ opcodeTable) (h : r.opc = r'.opc) :
    r = r' :=
  List.inj_on_of_nodup_map row_opcs_nodup hr hr' h

/-- A word that matches a row has the row's OPC. -/
theorem opcField_of_match {r : OpcodeRow} {w : Word} (hr : r ∈ opcodeTable) (hm : w &&& r.mask = r.value) :
    opcField w = r.opc := by
  obtain ⟨hmask, hvalue⟩ := row_opc r hr
  have masked : opcField w &&& opcField r.mask = opcField r.value := by rw [← hm]; exact BitVec.extractLsb'_and.symm
  have whole : opcField w &&& 0xFF = opcField w := BitVec.and_allOnes
  rwa [hmask, hvalue, whole] at masked

/-- A word that matches a row decodes to the row's instruction, built from its fields (R102). -/
theorem decodeCommand_of_match {r : OpcodeRow} {w : Word} (hr : r ∈ opcodeTable) (hm : w &&& r.mask = r.value) :
    decodeCommand w = .ok (r.build (aField w) (bField w) (fField w)) := by
  have hopc := opcField_of_match hr hm
  unfold decodeCommand
  cases hf : opcodeTable.find? (fun r => r.opc == opcField w) with
  | none =>
    have := List.find?_eq_none.1 hf r hr
    simp [hopc] at this
  | some r' =>
    have hopc' : r'.opc = opcField w := by simpa using List.find?_some hf
    obtain rfl : r' = r := row_eq_of_opc (List.mem_of_find?_eq_some hf) hr (hopc'.trans hopc)
    simp [hm]

/-- A word that matches no row is no command (R103, R104). -/
theorem decodeCommand_of_no_match {w : Word} (h : ∀ r ∈ opcodeTable, w &&& r.mask ≠ r.value) :
    ∃ e, decodeCommand w = .error e := by
  cases hd : decodeCommand w with
  | ok i =>
    obtain ⟨r, hr, -, hm, -⟩ := Machine.decodeCommand_eq_ok hd
    exact absurd hm (h r hr)
  | error e => exact ⟨e, rfl⟩

/-- Settles O3: a match fixes the OPC, and the OPC fixes the row. -/
theorem decodeMatchesRow : Obligations.DecodeMatchesRow := by
  refine fun w => ⟨fun r hr hm => decodeCommand_of_match hr hm, decodeCommand_of_no_match, fun j k hj hk => ?_⟩
  have opc : ∀ {j : Fin opcodeTable.length}, w &&& opcodeTable[j].mask = opcodeTable[j].value →
      opcField w = opcodeTable[j].opc := opcField_of_match (List.getElem_mem _)
  have same : opcodeTable[j] = opcodeTable[k] :=
    row_eq_of_opc (List.getElem_mem _) (List.getElem_mem _) ((opc hj).symm.trans (opc hk))
  exact Fin.ext ((row_opcs_nodup.of_map _).getElem_inj_iff.1 same)

end Sys2Proof
end

section
/-! SUPPORT. The two round trips between encodings and instructions: a row's instruction encodes to the bits the row
uses, and an encoding matches the row that builds it (R90, R100, R102). -/

namespace Sys2Proof

/-! ### The flags of F (R100) -/

theorem flagBit_fReqAck : ∀ f : Byte, flagBit 0 (fReqAck f) = f &&& 1 := by decide

theorem flagBit_fAckReply : ∀ f : Byte, flagBit 1 (fAckReply f) = f &&& 2 := by decide

theorem flagBit_fOn : ∀ f : Byte, flagBit 2 (fOn f) = f &&& 4 := by decide

theorem flagBit_fKeyPresent : ∀ f : Byte, flagBit 3 (fKeyPresent f) = f &&& 8 := by decide

/-! ### Encoding a row's instruction (R102, R103) -/

/-- The bits of the fields that a row uses: those its mask leaves out. -/
def OpcodeRow.used (r : OpcodeRow) (w : Word) : Word :=
  cmdWord r.opc (aField w &&& ~~~aField r.mask) (bField w &&& ~~~bField r.mask) (fField w &&& ~~~fField r.mask)

theorem and_whole_byte (x : Byte) : x &&& 0xFF#8 = x := BitVec.and_allOnes

/-- A row's instruction, built from the fields of a word, encodes to the bits of the word that the row uses: row by
row, an operand keeps its field, a flag is its bit of F, and a field the row does not use is 0. -/
theorem encode_build {r : OpcodeRow} (hr : r ∈ opcodeTable) (w : Word) :
    encode (r.build (aField w) (bField w) (fField w)) = .command (r.used w) := by
  unfold OpcodeRow.used
  generalize aField w = a, bField w = b, fField w = f
  simp only [opcodeTable, configurationRows, deliveryRows, primitiveRows, accessorRows, List.cons_append,
    List.nil_append, List.mem_cons, List.not_mem_nil, or_false] at hr
  rcases hr with rfl | rfl | rfl | rfl | rfl | rfl | rfl | rfl | rfl | rfl | rfl | rfl | rfl | rfl | rfl | rfl | rfl |
    rfl | rfl | rfl | rfl | rfl | rfl | rfl | rfl <;>
    simp [encode, aField, bField, fField, flagBit_fReqAck, flagBit_fAckReply, flagBit_fOn, flagBit_fKeyPresent,
      and_whole_byte, ← BitVec.and_or_distrib_left]

/-- Bits that a mask leaves at 0 lie in its complement. -/
theorem and_not_of_and_eq_zero {x m : Byte} (h : x &&& m = 0#8) : x &&& ~~~m = x := by
  have split : x &&& m ||| x &&& ~~~m = x := by simp [← BitVec.and_or_distrib_left, and_whole_byte]
  rwa [h, BitVec.zero_or] at split

/-- A word that matches a row has only bits that the row uses (R103). -/
theorem used_of_match {r : OpcodeRow} {w : Word} (hr : r ∈ opcodeTable) (hm : w &&& r.mask = r.value) :
    r.used w = w := by
  obtain ⟨ha, hb, hf⟩ := row_fields r hr
  rw [← hm] at ha hb hf
  have field : ∀ {lo}, (w &&& r.mask).extractLsb' lo 8 = 0 →
      w.extractLsb' lo 8 &&& ~~~r.mask.extractLsb' lo 8 = w.extractLsb' lo 8 :=
    fun h => and_not_of_and_eq_zero (BitVec.extractLsb'_and.symm.trans h)
  have hword : r.used w = cmdWord (opcField w) (aField w) (bField w) (fField w) := by
    rw [OpcodeRow.used, opcField_of_match hr hm]
    exact congr (congrArg₂ _ (field ha) (field hb)) (field hf)
  rw [hword, cmdWord_fields]

/-! ### The round trips -/

/-- The encoding of an instruction that a row builds decodes to it: it matches its row (R102). -/
theorem decode_encode_of_row {i : Instr} {a b f : Byte} {r : OpcodeRow} (hr : r ∈ opcodeTable)
    (hi : encode i = .command (cmdWord r.opc a b f)) (hs : Laws.EncodingMatchesRow.Statement i)
    (hb : r.build a b f = i) : decode (encode i) = .ok i := by
  unfold Laws.EncodingMatchesRow.Statement at hs
  rw [hi] at hs ⊢
  obtain ⟨r', hr', -, hopc, hm⟩ := hs
  obtain rfl : r = r' := row_eq_of_opc hr hr' ((Laws.opcField_cmdWord _ _ _ _).symm.trans hopc)
  have decoded : decodeCommand (cmdWord r.opc a b f) = .ok (r.build a b f) := by
    rw [decodeCommand_of_match hr hm, aField_cmdWord, bField_cmdWord, fField_cmdWord]
  rw [← hb]
  exact decoded

/-- The class of a built control byte is its high bits (R97). -/
theorem ctlClass_append (c : BitVec 2) (low : BitVec 6) : ctlClass (c ++ low) = c := BitVec.extractLsb'_append_eq_left

theorem ctlLowBits_append (c : BitVec 2) (low : BitVec 6) : ctlLowBits (c ++ low) = low :=
  BitVec.extractLsb'_append_eq_right

/-- A frame image decodes to the frame of its class (R90, R97). -/
theorem decodeFrame_frameImage (c : BitVec 2) (f : FrameBody) :
    decodeFrame (frameImage c f) = .ok (frameOfClass c f) := by
  unfold frameImage
  rw [decodeFrame, ctlClass_append, ctlLowBits_append]

/-- The frame of a class encodes to its image (R90, R97). -/
theorem encode_frameOfClass (c : BitVec 2) (f : FrameBody) : encode (frameOfClass c f) = .frame (frameImage c f) := by
  rcases Machine.class_cases c with rfl | rfl | rfl | rfl <;> rfl

/-- A row of the table, by its place. -/
theorem row_mem (n : Fin 25) : opcodeTable[n] ∈ opcodeTable := List.getElem_mem _

/-- Settles O1: a command's encoding matches the row that builds it, and a frame's image has its class. -/
theorem decodeOfEncode : Obligations.DecodeOfEncode := by
  intro i
  cases i with
  | init a n => exact decode_encode_of_row (row_mem 0) rfl (Laws.EncodingMatchesRow.init a n) rfl
  | setNetwork n => exact decode_encode_of_row (row_mem 1) rfl (Laws.EncodingMatchesRow.setNetwork n) rfl
  | setPromiscuous on =>
    exact decode_encode_of_row (row_mem 2) rfl (Laws.EncodingMatchesRow.setPromiscuous on) (by cases on <;> rfl)
  | setPowerLevel p => exact decode_encode_of_row (row_mem 3) rfl (Laws.EncodingMatchesRow.setPowerLevel p) rfl
  | setFrequency => exact decode_encode_of_row (row_mem 4) rfl Laws.EncodingMatchesRow.setFrequency rfl
  | getFrequency => exact decode_encode_of_row (row_mem 5) rfl Laws.EncodingMatchesRow.getFrequency rfl
  | setEncryptionKey k =>
    exact decode_encode_of_row (row_mem 6) rfl (Laws.EncodingMatchesRow.setEncryptionKey k) (by cases k <;> rfl)
  | sleep => exact decode_encode_of_row (row_mem 7) rfl Laws.EncodingMatchesRow.sleep rfl
  | send t rq => exact decode_encode_of_row (row_mem 8) rfl (Laws.EncodingMatchesRow.send t rq) (by cases rq <;> rfl)
  | sendWithRetry t r => exact decode_encode_of_row (row_mem 9) rfl (Laws.EncodingMatchesRow.sendWithRetry t r) rfl
  | sendAck => exact decode_encode_of_row (row_mem 10) rfl Laws.EncodingMatchesRow.sendAck rfl
  | ackReceived f => exact decode_encode_of_row (row_mem 11) rfl (Laws.EncodingMatchesRow.ackReceived f) rfl
  | ackRequested => exact decode_encode_of_row (row_mem 12) rfl Laws.EncodingMatchesRow.ackRequested rfl
  | pollReceived => exact decode_encode_of_row (row_mem 13) rfl Laws.EncodingMatchesRow.pollReceived rfl
  | setMode m => exact decode_encode_of_row (row_mem 14) rfl (Laws.EncodingMatchesRow.setMode m) rfl
  | receiveBegin => exact decode_encode_of_row (row_mem 15) rfl Laws.EncodingMatchesRow.receiveBegin rfl
  | canSend => exact decode_encode_of_row (row_mem 16) rfl Laws.EncodingMatchesRow.canSend rfl
  | awaitClearChannel => exact decode_encode_of_row (row_mem 17) rfl Laws.EncodingMatchesRow.awaitClearChannel rfl
  | writeFrame t rq ar =>
    exact decode_encode_of_row (row_mem 18) rfl (Laws.EncodingMatchesRow.writeFrame t rq ar)
      (by cases rq <;> cases ar <;> rfl)
  | getSender => exact decode_encode_of_row (row_mem 19) rfl Laws.EncodingMatchesRow.getSender rfl
  | getTarget => exact decode_encode_of_row (row_mem 20) rfl Laws.EncodingMatchesRow.getTarget rfl
  | getLength => exact decode_encode_of_row (row_mem 21) rfl Laws.EncodingMatchesRow.getLength rfl
  | getRssi => exact decode_encode_of_row (row_mem 22) rfl Laws.EncodingMatchesRow.getRssi rfl
  | getPayloadByte n => exact decode_encode_of_row (row_mem 23) rfl (Laws.EncodingMatchesRow.getPayloadByte n) rfl
  | getAckFlags => exact decode_encode_of_row (row_mem 24) rfl Laws.EncodingMatchesRow.getAckFlags rfl
  | capture => rfl
  | frameData f => exact decodeFrame_frameImage 0 f
  | frameDataReqack f => exact decodeFrame_frameImage 1 f
  | frameAck f => exact decodeFrame_frameImage 2 f
  | frameAckReqack f => exact decodeFrame_frameImage 3 f

/-- Settles O2: a word that decodes matches its row, so it has only bits the row uses; a frame image is the image of its
class and body. -/
theorem encodeOfDecode : Obligations.EncodeOfDecode := by
  intro e i hd
  cases e with
  | command w =>
    obtain ⟨r, hr, -, hm, rfl⟩ := Machine.decodeCommand_eq_ok hd
    rw [encode_build hr, used_of_match hr hm]
  | frame bytes =>
    match bytes, hd with
    | len :: target :: sender :: ctl :: payload, hd =>
      obtain rfl := Except.ok.inj hd
      rw [encode_frameOfClass, frameImage, Machine.ctl_split]
  | event =>
    obtain rfl := Except.ok.inj hd
    rfl

end Sys2Proof
end

section
/-! SUPPORT. The frames on the air: what a unit can leave in the transmitter is the frame it found there, or one
that the codec may transmit (R91, R95). -/

namespace Sys2Proof.Machine

/-- The three control bytes WriteFrame builds are those of the air (R95). -/
theorem buildCtl_transmittable (rq ar : Bool) :
    (buildCtl rq ar == 0x00 || buildCtl rq ar == 0x40 || buildCtl rq ar == 0x80) = true := by
  cases rq <;> cases ar <;> rfl

/-- The length byte of a frame of at most 61 payload bytes counts them (R91). -/
theorem frameLen_toNat {n : Nat} (h : n ≤ 61) : (BitVec.ofNat 8 (n + 3)).toNat = n + 3 := by
  rw [BitVec.toNat_ofNat]
  omega

/-- A frame of at most 61 payload bytes that WriteFrame builds is transmittable (R90, R91, R95). -/
theorem frameTransmittable_frameBytes (target own : Byte) (rq ar : Bool) {payload : List Byte}
    (hn : payload.length ≤ 61) : frameTransmittable (frameBytes target own (buildCtl rq ar) payload) = true := by
  simp only [frameTransmittable, frameBytes, frameLen_toNat hn, buildCtl_transmittable]
  simpa using hn

/-- The transmitter holds what it held, or a transmittable frame. -/
def TransmitterKept (s t : State) : Prop :=
  transmitRegisters t = transmitRegisters s ∨ frameTransmittable t.chip.txFrame = true

section
variable {i : Instr} {s t u : State} {k : State → State}

/-- A part of a unit that writes no frame. -/
theorem TransmitterKept.trans_frame (h : TransmitterKept s t) (hk : UnitFrame .sleep t u) : TransmitterKept s u := by
  have same : transmitRegisters u = transmitRegisters t := hk.transmit rfl
  refine h.imp same.trans fun hf => ?_
  have hframe : u.chip.txFrame = t.chip.txFrame := congrArg (fun r => r.2.1) same
  rwa [hframe]

theorem TransmitterKept.of_frame (hk : UnitFrame .sleep s t) : TransmitterKept s t := .inl (hk.transmit rfl)

/-- WriteFrame loads a transmittable frame: its payload is at most 61 bytes (R151). -/
theorem transmitterKept_writeFrameThen {target : Byte} {rq ar : Bool} (s : State)
    (hk : ∀ t, UnitFrame .sleep t (k t)) : Ensures (writeFrameThen target rq ar k s) (TransmitterKept s) := by
  rcases writeFrameThen_cases target rq ar k s with ⟨-, h⟩ | ⟨payload, hp, h⟩ <;> rw [h]
  · exact .fault _ _
  · obtain ⟨-, hlen, -⟩ := payloadBytes_eq_some.1 hp
    have loaded : TransmitterKept s (fifoWriteFrame (frameBytes target s.ownAddr (buildCtl rq ar) payload)
        { s with work := { s.work with lAcc := BitVec.ofNat 8 (payloadCount s) } }) :=
      .inr (frameTransmittable_frameBytes _ _ _ _ (by omega))
    exact .next (loaded.trans_frame (hk _))

theorem transmitterKept_transmitReady (x : Transmission) (s : State) :
    Ensures (transmitReady x s) (TransmitterKept s) := by
  rcases transmitReady_cases x s with ⟨-, h⟩ | ⟨-, h⟩ <;> rw [h]
  · exact transmitterKept_writeFrameThen _ fun t => unitFrame_setModeThen t fun _ => {}
  · exact .next (.of_frame (unitFrame_readModeReady s))

/-- SEND's body writes a frame only at the end of its mode-ready wait (R230). -/
theorem transmitterKept_sendBody {x : Transmission} (s : State) (hx : ∀ t, UnitFrame .sleep t (x.after t)) :
    Ensures (sendBody x s) (TransmitterKept s) := by
  unfold sendBody
  split
  · exact .next (.inl rfl)
  · exact .next (.of_frame (unitFrame_csmaTestSegment s fun _ => unitFrame_toPhase _))
  · exact .next (.of_frame (unitFrame_csmaPollSegment s))
  · exact .next (.of_frame (unitFrame_setModeThen s fun _ => {}))
  · exact transmitterKept_transmitReady x s
  · exact .next (.of_frame (unitFrame_transmitSent s hx))
  · exact .next (.of_frame (unitFrame_wakePoll s (unitFrame_toPhase _)))
  · exact .next (.of_frame (unitFrame_wakePoll s fun _ => {}))
  · exact .next (.of_frame (unitFrame_wakePoll s fun _ => {}))
  · exact .next (.of_frame (unitFrame_wakePoll s hx))
  · exact .fault _ _

/-- Phase 0 raises a fault, or is the first segment (R302, R303). -/
theorem transmitterKept_started {segment : State → Result} (h : Ensures (segment s) (TransmitterKept s)) :
    Ensures (started i s segment) (TransmitterKept s) := by
  rcases started_cases i s segment with ⟨c, -, hx⟩ | ⟨-, hx⟩ <;> rw [hx]
  · exact .next (.inl rfl)
  · exact h

end

/-! ### The commands that write a frame (R152, R231, R232, R235) -/

theorem transmitterKept_writeFrame (target : Byte) (rq ar : Bool) (s : State) :
    Ensures (execWriteFrame target rq ar s) (TransmitterKept s) :=
  transmitterKept_started (transmitterKept_writeFrameThen s unitFrame_finish)

theorem transmitterKept_send (target : Byte) (reqAck : Bool) (s : State) :
    Ensures (execSend target reqAck s) (TransmitterKept s) := by
  unfold execSend
  split
  · exact transmitterKept_started (.next (.inl rfl))
  · exact transmitterKept_sendBody s unitFrame_finish

theorem transmitterKept_sendAck (s : State) : Ensures (execSendAck s) (TransmitterKept s) := by
  unfold execSendAck
  split
  · exact transmitterKept_started (.next (.inl rfl))
  · exact transmitterKept_sendBody s fun _ => {}

theorem transmitterKept_sendWithRetry (target retries : Byte) (s : State) :
    Ensures (execSendWithRetry target retries s) (TransmitterKept s) := by
  unfold execSendWithRetry
  split
  · exact transmitterKept_started (.next (.inl rfl))
  · exact .next (.inl rfl)
  · have frame : UnitFrame .canSend s (ackWaitSegment target retries s) := unitFrame_ackWaitSegment rfl target retries s
    exact .next (.inl (frame.transmit rfl))
  · exact .next (.of_frame (unitFrame_wakePoll s (unitFrame_toPhase _)))
  · exact transmitterKept_sendBody s fun _ => {}

/-- After a unit of any instruction the transmitter holds what it held, or a transmittable frame. -/
theorem transmitterKept_exec (i : Instr) (s : State) : Ensures (exec i s) (TransmitterKept s) := by
  cases hi : writesFrame i with
  | false =>
    intro u hu
    rcases unitEnds_exec i s u hu with h | ⟨c, rfl⟩
    · exact .inl (h.transmit hi)
    · exact .inl rfl
  | true =>
    cases i with
    | writeFrame target rq ar => exact transmitterKept_writeFrame target rq ar s
    | send target reqAck => exact transmitterKept_send target reqAck s
    | sendAck => exact transmitterKept_sendAck s
    | sendWithRetry target retries => exact transmitterKept_sendWithRetry target retries s
    | _ => simp [writesFrame] at hi

/-! ### The air (R316) -/

/-- The air and the loaded frame stay legal when the air is the same and the transmitter is kept. -/
theorem AirLegal.of_transmitterKept {s t : State} (h : AirLegal s) (hair : t.chip.air = s.chip.air)
    (hk : TransmitterKept s t) : AirLegal t := by
  obtain ⟨air, loaded⟩ := h
  refine ⟨by rwa [hair], fun hl => ?_⟩
  rcases hk with hk | hk
  · simp only [transmitRegisters, Prod.mk.injEq] at hk
    obtain ⟨-, hframe, hloaded, -⟩ := hk
    rw [hframe]
    exact loaded (hloaded ▸ hl)
  · exact hk

/-- A unit of any instruction puts nothing on the air itself (R316). -/
theorem airLegal_of_exec {i : Instr} {s u : State} (h : AirLegal s) (hx : exec i s = .next u) : AirLegal u := by
  have hkept := keptRegisters_of_exec hx
  simp only [keptRegisters, Prod.mk.injEq] at hkept
  obtain ⟨-, -, -, -, -, -, -, -, -, -, -, hair⟩ := hkept
  exact h.of_transmitterKept hair (transmitterKept_exec i s u hx)

theorem airLegal_of_engineUnit {s t : State} (h : AirLegal s) (hu : engineUnit s = .next t) : AirLegal t := by
  have latch : ∀ {u}, AirLegal u → AirLegal (latchEdge s u) := fun hu => by rwa [AirLegal, latchEdge_chip]
  rcases engineUnit_cases hu with ⟨-, u, hx, rfl⟩ | ⟨-, -, -, ⟨i, u, -, hx, rfl⟩ | ⟨e, -, rfl⟩⟩ | ⟨-, -, rfl⟩
  · exact latch (airLegal_of_exec h hx)
  · exact latch (airLegal_of_exec h hx)
  · exact latch h
  · exact h

/-- A host write does not reach the chip (R75). -/
theorem hostWrite_chip (r : HostReg) (v : Word) (s : State) : (hostWrite r v s).chip = s.chip := by
  rcases hostWrite_cases r v s with ⟨-, h⟩ | ⟨-, -, h⟩ | ⟨-, -, h⟩ <;> rw [h]
  · rfl
  · cases r <;> rfl

/-- Packet sent puts the loaded frame on the air and leaves none loaded (R316). -/
theorem AirLegal.packetSent {s t : State} (h : AirLegal s) (hl : s.chip.txLoaded = true)
    (hair : t.chip.air = s.chip.air ++ [s.chip.txFrame]) (hempty : t.chip.txLoaded = false) : AirLegal t := by
  obtain ⟨air, loaded⟩ := h
  refine ⟨fun f hf => ?_, fun ht => absurd (hempty.symm.trans ht) (by decide)⟩
  rw [hair, List.mem_append, List.mem_singleton] at hf
  rcases hf with hf | rfl
  · exact air f hf
  · exact loaded hl

/-- Settles O56: a unit loads only frames that the codec may transmit, packet sent puts the loaded one on the air, and
no other move writes the air or the transmitter. -/
theorem airStaysLegal : Obligations.AirStaysLegal := by
  intro s hs t ht
  rcases step_cases ht with ⟨-, hu⟩ | ⟨-, -, v, r, -, -, rfl⟩ | ⟨-, -, r, -, -, rfl⟩ | ⟨a, b, -, -, rfl⟩ |
    ⟨-, rfl⟩ | ⟨-, rfl⟩ | ⟨-, bytes, -, rfl | ⟨-, -, -, rfl⟩⟩ | ⟨-, rfl | ⟨-, -, hl, rfl⟩⟩ | ⟨-, rfl⟩
  · exact airLegal_of_engineUnit (s := afterMove s) hs hu
  · rwa [AirLegal, latchEdge_chip, hostWrite_chip]
  · exact hs
  · exact hs
  · exact hs
  · exact hs
  · exact hs
  · rwa [AirLegal, latchEdge_chip]
  · exact hs
  · exact hs.packetSent hl (by rw [latchEdge_chip]) (by rw [latchEdge_chip])
  · exact hs

end Sys2Proof.Machine
end

section
/-! SUPPORT. The engine's turn, and the units of one segment that pass their decode checks: the illegal word,
WRITE_FRAME and the slot accessors (R104, R151, R181 to R187). -/

namespace Sys2Proof.Machine

/-- At the engine's turn the step is the engine's own unit (R308). -/
theorem step_of_engineTurn {s : State} (h : EngineTurn s) : step s = engineUnit (afterMove s) := by
  cases hi : s.inputs with
  | nil =>
    have same : afterMove s = s := by cases s; simp_all [afterMove]
    simp [step, hi, same]
  | cons i rest =>
    have hengine : i = .engine := by simpa [EngineTurn, hi] using h
    rw [step_of_inputs hi, hengine, inputUnit]

/-- Settles O6: the word decodes to nothing, so the running command's unit raises the fault, and DIO0 does not move. -/
theorem illegalWordFaults : Obligations.IllegalWordFaults := by
  intro s hturn hdue hf hb hno
  obtain ⟨e, he⟩ := decodeCommand_of_no_match hno
  have unit : appUnit (afterMove s) = .next (raiseFault .illegalCommand (afterMove s)) := by
    have hword : decodeCommand (afterMove s).curCmd = .error e := he
    simp [appUnit, hword]
  have hdue' : captureDue (afterMove s) = false := hdue
  have running : (afterMove s).faultCode = .none ∧ (afterMove s).busy = true := ⟨hf, hb⟩
  have still : latchEdge (afterMove s) (raiseFault .illegalCommand (afterMove s)) =
      raiseFault .illegalCommand (afterMove s) :=
    latchEdge_of_dio0_eq rfl
  rw [step_of_engineTurn hturn, engineUnit, if_neg (by simp [hdue']), if_pos running, unit, latched_next, still]
  rfl

/-! ### The decode checks (R302) -/

/-- Phase 0 goes on when every check passes (R302). -/
theorem started_of_checks {i : Instr} {s : State} (segment : State → Result) (h : decodeFault i s = none) :
    started i s segment = segment s := by
  rw [started, h]

/-- WRITE_FRAME after INIT, its payload in host memory, passes every check. -/
theorem decodeFault_writeFrame {target : Byte} {rq ar : Bool} {s : State} (hd : s.initDone = true)
    (hr : s.argPtr.toNat + min s.argLen.toNat 61 ≤ 65536) : decodeFault (.writeFrame target rq ar) s = none := by
  have inRange : hostRangeOk (.writeFrame target rq ar) s = true := decide_eq_true hr
  exact decodeFault_eq_none.2 ⟨by simp [isInit, hd], rfl, rfl, by simp [readsSlot], inRange⟩

/-- After INIT and with its payload in host memory, WRITE_FRAME is WriteFrame and the end of the command (R152). -/
theorem exec_writeFrame {target : Byte} {rq ar : Bool} {s : State} (hd : s.initDone = true)
    (hr : s.argPtr.toNat + min s.argLen.toNat 61 ≤ 65536) :
    exec (.writeFrame target rq ar) s = writeFrameThen target rq ar finish s :=
  started_of_checks _ (decodeFault_writeFrame hd hr)

/-- Settles O20: the checks pass, and WriteFrame pushes the frame of the payload that host memory holds. -/
theorem writeFrameResult : Obligations.WriteFrameResult := by
  intro target rq ar s payload hd hr hlen hbytes
  have read : payloadBytes s = some payload :=
    payloadBytes_eq_some.2 ⟨hr, hlen, fun i hi => hbytes i (hlen ▸ hi)⟩
  rw [exec_writeFrame hd hr, writeFrameThen, read]
  rfl

/-! ### The slot accessors (R181 to R187) -/

/-- A slot reader outside RX with a legal operand answers its value of the slot. -/
theorem slotCommand_answers (i : Instr) (value : Slot → Word) {s : State} (hd : s.initDone = true) (hm : s.mode ≠ .rx)
    (hi : isInit i = false := by rfl) (ho : i.argLegal = true := by rfl) (ha : i.addrLegal = true := by rfl)
    (hn : hostRangeOk i s = true := by rfl) :
    slotCommand i value s = .next { s with result := value s.slot, busy := false, phase := .start } :=
  started_of_checks _ (decodeFault_eq_none.2 ⟨by simp [hi, hd], ho, ha, fun _ => hm, hn⟩)

/-- The two flags as a number (R108, R186). -/
theorem ackFlagsWord_eq (rcvd req : Bool) :
    ackFlagsWord rcvd req = (if rcvd then 2 else 0) + (if req then 1 else 0) := by
  cases rcvd <;> cases req <;> rfl

/-- zext_32 of a bool as a number (R108). -/
theorem boolWord_eq (b : Bool) : boolWord b = if b = true then 1 else 0 := by
  cases b <;> rfl

/-- Settles O24: each accessor passes its checks and answers its field in the encoding of R108. -/
theorem slotAccessorResults : Obligations.SlotAccessorResults := by
  intro s hd hm
  refine ⟨slotCommand_answers .getSender (fun r => byteWord r.sender) hd hm,
    slotCommand_answers .getTarget (fun r => byteWord r.target) hd hm,
    slotCommand_answers .getLength (fun r => byteWord r.dataLen) hd hm,
    slotCommand_answers .getRssi (fun r => rssiWord r.rssi) hd hm, fun i hi => ?_, ?_, ?_⟩
  · have byte : s.slot.payload.toList.getD i.toNat 0 = s.slot.payload[i.toNat] := by simp [hi]
    rw [← byte]
    exact slotCommand_answers (.getPayloadByte i) (fun r => byteWord (r.payload.toList.getD i.toNat 0)) hd hm rfl
      (decide_eq_true hi)
  · rw [← ackFlagsWord_eq]
    exact slotCommand_answers .getAckFlags (fun r => ackFlagsWord r.ackRcvd r.ackReq) hd hm
  · have answer : boolWord (s.slot.ackReq && s.slot.target != Config.broadcast) =
        if s.slot.ackReq = true ∧ s.slot.target ≠ 255 then 1 else 0 := by
      simp [boolWord_eq, Config.broadcast]
    rw [← answer]
    exact slotCommand_answers .ackRequested (fun r => boolWord (r.ackReq && r.target != Config.broadcast)) hd hm

end Sys2Proof.Machine
end

section
/-! SUPPORT. A frame from its arrival to the slot: the arrival of each class (R316), what a capture that accepts stores
(R175, R178), and the two together. -/

namespace Sys2Proof.Machine

/-! ### The arrival (R97, R316) -/

/-- A received frame: its bytes are in the FIFO and payload ready is set (R316). -/
def receiving (bytes : List Byte) (s : State) : State :=
  { s with chip := { s.chip with payloadReady := true, rxFifo := bytes } }

/-- In step, in RX and with no frame waiting, the frame is received (R316). -/
theorem frameArrives_received {bytes : List Byte} {s : State} (ho : s.chip.opMode = s.chipMode) (hm : s.chipMode = .rx)
    (hp : s.chip.payloadReady = false) : frameArrives bytes s = .next (receiving bytes s) := by
  simp [frameArrives, canArrive, receiving, ho, hm, hp]

/-- Outside RX or with a frame waiting, it is lost (R316). -/
theorem frameArrives_lost {bytes : List Byte} {s : State} (ho : s.chip.opMode = s.chipMode)
    (h : s.chipMode ≠ .rx ∨ s.chip.payloadReady = true) : frameArrives bytes s = .next s := by
  have cannot : canArrive s = false := by
    rcases h with h | h <;> simp [canArrive, h]
  simp [frameArrives, ho, cannot]

/-- Out of step, it is refused (R343). -/
theorem frameArrives_refused {bytes : List Byte} {s : State} (ho : s.chip.opMode ≠ s.chipMode) :
    frameArrives bytes s = .refused .chipOutOfStep := by
  simp [frameArrives, ho]

/-- The frame of a class is the arrival of its image. -/
theorem exec_frameOfClass (c : BitVec 2) (f : FrameBody) (s : State) :
    exec (frameOfClass c f) s = frameArrives (frameImage c f) s :=
  exec_of_decodeFrame (decodeFrame_frameImage c f) s

/-- A control byte as its class's bits and its low bits (R94). -/
theorem append_eq_or : ∀ (c : BitVec 2) (low : BitVec 6),
    (c ++ low : BitVec 8) = (c ++ 0#6 : BitVec 8) ||| low.setWidth 8 := by decide

/-- A row of a table over the four classes is the entry of its class. -/
theorem class_of_row {α : Type} (entry : BitVec 2 → α) {f : FrameBody} {i : Instr} {x : α}
    (h : (i, x) ∈ [(Instr.frameData f, entry 0), (.frameDataReqack f, entry 1), (.frameAck f, entry 2),
      (.frameAckReqack f, entry 3)]) : ∃ c, i = frameOfClass c f ∧ x = entry c := by
  simp only [List.mem_cons, Prod.mk.injEq, List.not_mem_nil, or_false] at h
  rcases h with h | h | h | h
  exacts [⟨0, h⟩, ⟨1, h⟩, ⟨2, h⟩, ⟨3, h⟩]

/-- Settles O31: the frame row is the arrival of its class's image. -/
theorem frameArrivalResults : Obligations.FrameArrivalResults := by
  intro f s i low hi
  obtain ⟨c, rfl, rfl⟩ := class_of_row (fun c => (c ++ 0#6 : BitVec 8)) hi
  rw [exec_frameOfClass, ← append_eq_or]
  exact ⟨frameArrives_received, frameArrives_lost, frameArrives_refused⟩

/-! ### The capture that accepts (R175, R178) -/

/-- The slot after the accept path, RX_RSSI apart: the header and the payload of the frame in the FIFO, its length
clamped. -/
def acceptedSlot (s : State) : Slot :=
  let len := clampLen s (fifoByte s 0)
  { s.slot with
    frameLen := len
    target := fifoByte s 1
    sender := fifoByte s 2
    ackRcvd := ctlAckRcvd (fifoByte s 3)
    ackReq := ctlAckReq (fifoByte s 3)
    dataLen := BitVec.ofNat 8 (min (len.toNat - 3) Config.rxBufCap)
    payload := storedPayload (fifoBytes s 4 (len.toNat - 3)) s.slot.payload }

/-- The accepted frame depends on the slot, the clamp, the FIFO and the draws alone. -/
theorem acceptedSlot_congr {s t : State} (hs : t.slot = s.slot) (hp : t.params = s.params)
    (hf : t.chip.rxFifo = s.chip.rxFifo) (hd : t.draws = s.draws) : acceptedSlot t = acceptedSlot s := by
  unfold acceptedSlot fifoBytes fifoByte clampLen rxLenClamp
  rw [hs, hp, hf, hd]

/-- The filter passes the frame in the FIFO (R176). -/
def acceptsWaiting (s : State) : Bool := accepts s (clampLen s (fifoByte s 0)) (fifoByte s 1)

/-- The frame part of a capture that accepts stores the frame (R175, R178). -/
theorem captureFrame_slot {s : State} (ha : acceptsWaiting s = true) : (captureFrame s).slot = acceptedSlot s := by
  rcases captureFrame_cases s with ⟨-, h⟩ | ⟨hr, -⟩
  · have stored : (captureFrame s).slot = acceptedSlot (setModeNow .standby s) := by
      rw [h, captureAccept_eq, setModeNow_slot]
      simp [acceptedSlot, clampLen, rxLenClamp, fifoByte]
    rw [stored]
    exact acceptedSlot_congr (by simp) (by simp) (by simp) (by simp)
  · exact absurd (ha.symm.trans hr) (by decide)

/-- A capture in RX that accepts the waiting frame stores it, and then the RSSI sample (R175, R178, R179). -/
theorem slot_of_capture {s u : State} (hm : s.mode = .rx) (hp : s.chip.payloadReady = true)
    (ha : acceptsWaiting s = true) (hx : exec .capture s = .next u) :
    u.slot = { acceptedSlot s with rssi := u.slot.rssi } := by
  rcases execCapture_cases s with ⟨-, -, h⟩ | ⟨hn, -⟩
  · obtain rfl := Host.Outcome.next.inj (h.symm.trans hx)
    have entered : acceptsWaiting (chipReadPayloadReady (capEntry s)) = true := ha
    have stored : (captureFrame (chipReadPayloadReady (capEntry s))).slot = acceptedSlot s := captureFrame_slot entered
    simp [sampleRssi, chipReadRssi_eq, stored]
  · simp [hm, hp] at hn

/-! ### From the air to the slot -/

/-- The FIFO reads after the header of a received frame give its payload. -/
theorem fifoBytes_payload (len target sender ctl : Byte) (payload : List Byte) (s : State) :
    fifoBytes (receiving (len :: target :: sender :: ctl :: payload) s) 4 payload.length = payload := by
  refine List.ext_getElem (fifoBytes_length _ _ _) fun n hn hn' => ?_
  have byte : (receiving (len :: target :: sender :: ctl :: payload) s).chip.rxFifo[4 + n]? = some payload[n] := by
    simp [receiving, Nat.add_comm 4 n, hn']
  have read := fifoBytes_getElem? (receiving (len :: target :: sender :: ctl :: payload) s) 4 payload.length n hn'
  rw [fifoByte_of_getElem byte] at read
  exact List.getElem_eq_iff hn |>.2 read

/-- A node armed in RX, its chip in step and with no frame waiting (R316). -/
structure Armed (s : State) : Prop where
  mode : s.mode = .rx
  chipMode : s.chipMode = .rx
  opMode : s.chip.opMode = .rx
  empty : s.chip.payloadReady = false

/-- A frame of three bytes or more after its length byte that arrives at an armed node whose filter passes its target is
stored by the next capture (R175, R176, R316). -/
theorem slot_of_delivery {len target sender ctl : Byte} {payload : List Byte} {s t u : State} (hs : Armed s)
    (hlen : 3 ≤ len.toNat) (ha : s.promisc = true ∨ target = s.ownAddr ∨ target = 255)
    (ht : frameArrives (len :: target :: sender :: ctl :: payload) s = .next t) (hu : exec .capture t = .next u) :
    u.slot =
      { acceptedSlot (receiving (len :: target :: sender :: ctl :: payload) s) with rssi := u.slot.rssi } := by
  have inStep : s.chip.opMode = s.chipMode := hs.opMode.trans hs.chipMode.symm
  obtain rfl := Host.Outcome.next.inj ((frameArrives_received inStep hs.chipMode hs.empty).symm.trans ht)
  refine slot_of_capture hs.mode rfl ((accepts_iff _ _ _).2 ⟨ha, ?_⟩) hu
  obtain ⟨hclamp, -⟩ := rxLenClamp_bounds s
  exact (clampLen_toNat s len).symm ▸ Nat.le_min.2 ⟨hlen, hclamp⟩

/-- The two ACK flags of a control byte are its class (R96, R97). -/
theorem ctlFlags_append : ∀ (c : BitVec 2) (low : BitVec 6),
    ctlAckRcvd (c ++ low) = c.getLsbD 1 ∧ ctlAckReq (c ++ low) = c.getLsbD 0 := by decide

/-- Settles O32: the capture stores the control byte's flags, which are the class's, and the header's two addresses. -/
theorem frameClassSetsFlags : Obligations.FrameClassSetsFlags := by
  intro f s t u i rcvd req hi hm hc ho hp hlen ha ht hu
  obtain ⟨c, rfl, hflags⟩ := class_of_row (fun c => (c.getLsbD 1, c.getLsbD 0)) hi
  obtain ⟨rfl, rfl⟩ := Prod.mk.inj hflags
  rw [exec_frameOfClass] at ht
  obtain ⟨flagRcvd, flagReq⟩ := ctlFlags_append c f.ctlLow
  rw [slot_of_delivery ⟨hm, hc, ho, hp⟩ hlen ha ht hu]
  exact ⟨flagRcvd, flagReq, rfl, rfl⟩

/-- Of a frame that the clamp does not shorten, the accept path stores every payload byte (R177, R178). -/
theorem acceptedSlot_whole {len target sender ctl : Byte} {payload : List Byte} {s : State}
    (hlen : len.toNat = payload.length + 3) (hclamp : len.toNat ≤ rxLenClamp s) :
    (acceptedSlot (receiving (len :: target :: sender :: ctl :: payload) s)).dataLen =
        BitVec.ofNat 8 (min payload.length 61) ∧
      (acceptedSlot (receiving (len :: target :: sender :: ctl :: payload) s)).payload =
        storedPayload payload s.slot.payload := by
  have whole : (clampLen s len).toNat - 3 = payload.length := by
    rw [clampLen_toNat]
    omega
  have stored : (acceptedSlot (receiving (len :: target :: sender :: ctl :: payload) s)).payload =
      storedPayload (fifoBytes (receiving (len :: target :: sender :: ctl :: payload) s) 4 ((clampLen s len).toNat - 3))
        s.slot.payload := rfl
  refine ⟨congrArg (fun n => BitVec.ofNat 8 (min n 61)) whole, ?_⟩
  rw [stored, whole, fifoBytes_payload]

/-- The flags that BuildCtl puts in the control byte are those the decoder reads (R96, R150). -/
theorem ctlFlags_buildCtl (rq ar : Bool) :
    ctlAckRcvd (buildCtl rq ar) = ar ∧ ctlAckReq (buildCtl rq ar) = (rq && !ar) := by
  cases rq <;> cases ar <;> decide

/-- The frame that WRITE_FRAME loads (R151, R152). -/
theorem txFrame_of_writeFrame {target : Byte} {rq ar : Bool} {s t : State} (hd : s.initDone = true)
    (hr : s.argPtr.toNat + min s.argLen.toNat 61 ≤ 65536) (hx : exec (.writeFrame target rq ar) s = .next t) :
    ∃ payload, payloadBytes s = some payload ∧
      t.chip.txFrame = frameBytes target s.ownAddr (buildCtl rq ar) payload := by
  rcases writeFrameThen_cases target rq ar finish s with ⟨hnone, -⟩ | ⟨payload, hp, h⟩
  · have := payloadBytes_eq_none.1 hnone
    omega
  · obtain rfl := Host.Outcome.next.inj (((exec_writeFrame hd hr).trans h).symm.trans hx)
    exact ⟨payload, hp, rfl⟩

/-- Settles O45: b's frame is its header and the payload bytes of its memory, and a's capture stores both: the length
byte is at most 64, so the clamp keeps it. -/
theorem writtenFrameIsCaptured : Obligations.WrittenFrameIsCaptured := by
  intro a b b' a1 a2 target rq ar hd hr hwrite hclamp haccept hm hc ho hp harrive hcapture
  obtain ⟨payload, hread, hframe⟩ := txFrame_of_writeFrame hd hr hwrite
  obtain ⟨-, hlen, hbytes⟩ := payloadBytes_eq_some.1 hread
  rw [frameUnit_eq, if_pos rfl, hframe] at harrive
  have counted : (BitVec.ofNat 8 (payload.length + 3)).toNat = payload.length + 3 := frameLen_toNat (by omega)
  have hfilter : a.promisc = true ∨ target = a.ownAddr ∨ target = 255 := by tauto
  obtain ⟨flagRcvd, flagReq⟩ := ctlFlags_buildCtl rq ar
  obtain ⟨hcount, hstored⟩ := acceptedSlot_whole (s := a) (target := target) (sender := b.ownAddr)
    (ctl := buildCtl rq ar) counted (by omega)
  rw [slot_of_delivery ⟨hm, hc, ho, hp⟩ (by omega) hfilter harrive hcapture]
  refine ⟨rfl, rfl, ?_, flagRcvd, flagReq, fun i h hi => ?_⟩
  · rw [hcount, BitVec.toNat_ofNat]
    omega
  · have byte : payload.getD i 0 = memRead b.hostMem (b.argPtr.toNat + i) := by simp [hbytes i hi]
    simp only [hstored, storedPayload_getElem]
    rw [if_pos (hlen ▸ hi), byte]

end Sys2Proof.Machine
end

section
/-! SUPPORT. The words and the frame that the spec writes out (R134, R152, R185, R231, R235, R270, R272). -/

namespace Sys2Proof

/-- The encoding of a command decodes to it (R100, R102). -/
theorem decodeCommand_of_encode {i : Instr} {w : Word} (h : encode i = .command w) : decodeCommand w = .ok i := by
  have roundTrip : decode (encode i) = .ok i := decodeOfEncode i
  rwa [h] at roundTrip

/-- Settles O4: each word is the encoding of its command, and the frame is an image of its class. -/
theorem specWordsDecode : Obligations.SpecWordsDecode :=
  ⟨decodeCommand_of_encode rfl, decodeCommand_of_encode rfl, decodeCommand_of_encode rfl, decodeCommand_of_encode rfl,
    decodeCommand_of_encode rfl, decodeCommand_of_encode rfl, decodeCommand_of_encode rfl, decodeCommand_of_encode rfl,
    decodeCommand_of_encode rfl, decodeFrame_frameImage 1 ⟨7, 2, 1, 0, [0x50, 0x49, 0x4E, 0x47]⟩⟩

end Sys2Proof
end

section
/-! SUPPORT. SetMode as the statements say it, and the commands of the Mode Controller: a change of mode, the current
mode, and the wait of a SetMode that leaves Sleep (R130 to R136). -/

namespace Sys2Proof.Machine

/-! ### SetMode (R130, R131, R136) -/

/-- HP_ON after SetMode's transactions, as R131 says it. -/
theorem hpAfter_eq (m : Mode) (s : State) :
    hpAfter m s = if s.params.hpVariant = true ∧ m = .tx then true
      else if s.params.hpVariant = true ∧ m = .rx then false else s.hpOn := by
  simp [hpAfter]

/-- SetMode's transactions, newest first: the chip's mode, and then the amplifiers where R131 switches them (R133). -/
theorem traceAfter_eq (m : Mode) (s : State) :
    traceAfter m s = (if s.params.hpVariant = true ∧ m = .tx then [.setHighPower true]
      else if s.params.hpVariant = true ∧ m = .rx then [.setHighPower false] else []) ++
        .setOpMode m :: s.busTrace := by
  unfold traceAfter
  cases s.params.hpVariant <;> cases m <;> rfl

/-- Leaving TX clears packet sent (R315). -/
theorem packetSent_of_leaving_tx (m : Mode) (s : State) :
    (s.chip.packetSent && !(s.chipMode == .tx && m != .tx)) =
      if s.chipMode = .tx ∧ m ≠ .tx then false else s.chip.packetSent := by
  by_cases inTx : s.chipMode = .tx <;> by_cases toTx : m = .tx <;> simp [inTx, toTx]

/-- SetMode to the current mode goes straight on (R136). -/
theorem setModeThen_same {m : Mode} {s : State} (r : Resume) (k : State → State) (h : s.mode = m) :
    setModeThen m r k s = k s := by
  have awake : s.mode ≠ .sleep ∨ m = .sleep := by
    rw [h]
    exact ne_or_eq m .sleep
  rw [setModeThen_awake r k awake, setModeNow_same h]

/-! ### The wake wait (R130, R132) -/

/-- A poll of the wake wait that finds the chip not ready before the bound stays in the wait (R132). -/
theorem wakePoll_stays {m : Mode} {k : State → State} {s : State} (h : modeReadyAnswer s = false)
    (hb : ¬ReadyBoundReached s) :
    wakePoll m k s = { s with
      ie := !s.inIsr
      answers := { s.answers with modeReady := s.answers.modeReady.tail }, draws := s.draws + 1
      busTrace := .readModeReady false :: s.busTrace } := by
  rcases wakePoll_cases m k s with ⟨ends, -⟩ | ⟨-, hpoll⟩
  · simp [h, hb] at ends
  · rw [hpoll, chipReadModeReady_eq, h]

/-- The poll that ends the wake wait sets MODE, and the command goes on (R130, R132). -/
theorem wakePoll_ends {m : Mode} {k : State → State} {s : State}
    (h : modeReadyAnswer s = true ∨ ReadyBoundReached s) :
    wakePoll m k s = k { s with
      mode := m, ie := !s.inIsr
      answers := { s.answers with modeReady := s.answers.modeReady.tail }, draws := s.draws + 1
      busTrace := .readModeReady (modeReadyAnswer s) :: s.busTrace } := by
  rcases wakePoll_cases m k s with ⟨-, hpoll⟩ | ⟨⟨notReady, notReached⟩, -⟩
  · rw [hpoll, chipReadModeReady_eq]
  · simp [notReady, notReached] at h

/-! ### SET_MODE and SLEEP (R134, R135) -/

/-- After INIT a command that reads neither the slot nor host memory passes every check if its operand is legal
(R302). -/
theorem started_of_initDone (i : Instr) {s : State} (segment : State → Result) (hd : s.initDone = true)
    (hlegal : i.argLegal = true := by rfl) (hinit : isInit i = false := by rfl) (haddr : i.addrLegal = true := by rfl)
    (hslot : readsSlot i = false := by rfl) (hrange : hostRangeOk i s = true := by rfl) :
    started i s segment = segment s :=
  started_of_checks segment
    (decodeFault_eq_none.2 ⟨by simp [hinit, hd], hlegal, haddr, by simp [hslot], hrange⟩)

/-- An operand that names a mode is legal (R105, R134). -/
theorem argLegal_setMode {a : Byte} {m : Mode} (h : modeOfCode a = some m) : (Instr.setMode a).argLegal = true := by
  have bound : ¬4 < a.toNat := fun hgt => nomatch (modeOfCode_eq_none hgt).symm.trans h
  exact decide_eq_true (Nat.le_of_not_lt bound)

section
variable {a : Byte} {m : Mode} {s : State}

/-- The first unit of SET_MODE is SetMode (R134). -/
theorem exec_setMode_start (h : modeOfCode a = some m) (hd : s.initDone = true) (hp : s.phase = .start) :
    exec (.setMode a) s = .next (setModeThen m .finish finish s) := by
  have command : exec (.setMode a) s = setModeCommand (.setMode a) m s := by simp only [exec, execSetMode, h]
  rw [command, setModeCommand, hp]
  exact started_of_initDone (.setMode a) _ hd (argLegal_setMode h)

/-- The units of SET_MODE at its window poll the wake wait (R130, R134). -/
theorem exec_setMode_wake {m' : Mode} (h : modeOfCode a = some m) (hp : s.phase = .wake m' .finish) :
    exec (.setMode a) s = .next (wakePoll m' finish s) := by
  have command : exec (.setMode a) s = setModeCommand (.setMode a) m s := by simp only [exec, execSetMode, h]
  rw [command, setModeCommand, hp]

/-- SLEEP is SetMode to Sleep, which never waits (R135). -/
theorem exec_sleep (hd : s.initDone = true) : exec .sleep s = .next (finish (setModeNow .sleep s)) := by
  rw [exec, execSleep]
  exact started_of_initDone .sleep _ hd

end

/-- Settles O17: neither command leaves Sleep, so its SetMode changes the mode and the command finishes in one unit. -/
theorem setModeTransition : Obligations.SetModeTransition := by
  intro m s hm hd moved
  have ends : .next (finish (setModeNow m s)) = moved := by
    rw [setModeNow_other hm, setModeBus_eq, hpAfter_eq, traceAfter_eq, packetSent_of_leaving_tx]
    rfl
  refine ⟨fun a ha awake hp => ?_, ?_⟩
  · rw [exec_setMode_start ha hd hp, setModeThen_awake _ _ (.inl awake), ends]
  · rintro rfl
    rw [exec_sleep hd, ends]

/-- Settles O18: SetMode to the current mode goes straight on, and after it both commands only finish. -/
theorem modeIdempotence : Obligations.ModeIdempotence := by
  intro s
  refine ⟨fun _ r k => setModeThen_same r k, fun hd hp => ⟨fun a m ha hm => ?_, fun hm => ?_⟩⟩
  · rw [exec_setMode_start ha hd hp, setModeThen_same _ _ hm]
    rfl
  · rw [exec_sleep hd, setModeNow_same hm]
    rfl

/-- Settles O19: the first unit stops at the window of the wake wait, and a poll there stays or ends the wait. -/
theorem setModeWakes : Obligations.SetModeWakes := by
  intro a m s ha hm
  refine ⟨fun hd hp hs => ?_, fun hp hready hbound => ?_, fun hp hend => ?_⟩
  · refine ⟨_, exec_setMode_start ha hd hp, ?_⟩
    rw [setModeThen_asleep _ _ hs hm, setModeBus_eq]
    exact ⟨rfl, hs, rfl, rfl, rfl, rfl, rfl⟩
  · rw [exec_setMode_wake ha hp, wakePoll_stays hready hbound]
  · rw [exec_setMode_wake ha hp, wakePoll_ends hend]
    rfl

end Sys2Proof.Machine
end

section
/-! SUPPORT. The wakes of a run: every SetMode of a command, SET_MODE apart, that leaves Sleep, from the unit that enters
its wait to what the command does after it (R130, R171, R173, R230). -/

namespace Sys2Proof.Machine

/-! ### A wake -/

/-- Where a run's SetMode that r names is reached (R69): phase 0, the channel-clear wait, the ACK wait before its deadline,
and the start of TransmitFrame. -/
def wakeEntry : Resume → State → Prop
  | .finish, s => s.phase = .start
  | .csma, s => s.phase = .csmaPoll
  | .ackPoll, s => s.phase = .ackWait ∧ ¬s.argTmo ≤ s.clock - s.work.tAck
  | .txStart, s => s.phase = .txEnter
  | .txSend, _ | .txEnd, _ => False

/-- The state that SetMode(m) leaving Sleep is called in: every SetMode to RX is ReceiveBegin's (R171). -/
def beforeWake (m : Mode) (s : State) : State := if m = .rx then rearm s else s

/-- The wake of i in s by SetMode(m), after which it goes on with u: the unit that enters the wait, and the polls of its
window (R130). -/
structure Wakes (i : Instr) (m : Mode) (r : Resume) (u : State → State) (s : State) : Prop where
  leaves : m ≠ .sleep
  enters : s.mode = .sleep → s.initDone = true → wakeEntry r s →
    exec i s = .next (setModeThen m r u (beforeWake m s))
  polls : s.phase = .wake m r → exec i s = .next (wakePoll m u s)

/-- The unit that enters the wait commands the chip, with MODE still Sleep; a re-arm has cleared the slot. -/
theorem Wakes.enters_window {i : Instr} {m : Mode} {r : Resume} {u : State → State} {s : State} (h : Wakes i m r u s)
    (hs : s.mode = .sleep) (hd : s.initDone = true) (he : wakeEntry r s) :
    ∃ t, exec i s = .next t ∧ t.phase = .wake m r ∧ t.mode = .sleep ∧ t.chipMode = m ∧ t.busy = s.busy ∧
      t.work = { s.work with tMr := s.clock } ∧
      t.slot = (if m = .rx then { State.reset.slot with payload := s.slot.payload } else s.slot) := by
  refine ⟨_, h.enters hs hd he, ?_⟩
  unfold beforeWake
  split
  · rw [setModeThen_asleep r u (by simpa using hs) h.leaves]
    simp [hs, State.reset]
  · rw [setModeThen_asleep r u hs h.leaves]
    simp [hs]

/-! ### ReceiveBegin and ReceiveDone from Sleep (R171, R173) -/

section
variable {r : Resume} {s : State}

/-- From Sleep ReceiveDone re-arms (R173). -/
theorem receiveDone_asleep (kTrue kFalse : State → State) (h : s.mode = .sleep) :
    receiveDone r kTrue kFalse s = receiveBeginThen r kFalse s := by
  rcases receiveDone_cases r kTrue kFalse s with ⟨rx, -⟩ | ⟨rx, -⟩ | ⟨-, rearms⟩
  · exact nomatch h.symm.trans rx
  · exact nomatch h.symm.trans rx
  · rw [rearms, receiveBeginThen, rearm_masked, receiveBeginThen]

/-- From Sleep AckReceived re-arms, and its result is 0 (R233). -/
theorem ackReceivedThen_asleep (src : Byte) (k : Bool → State → State) (h : s.mode = .sleep) :
    ackReceivedThen src r k s = receiveBeginThen r (k false) s :=
  receiveDone_asleep _ _ h

end

/-! ### The receive commands (R172, R174, R234) -/

theorem wakes_receiveBegin (s : State) : Wakes .receiveBegin .rx .finish finish s where
  leaves := by decide
  enters _ hd hp := by
    rw [exec, execReceiveBegin, hp]
    exact started_of_initDone .receiveBegin _ hd
  polls hp := by rw [exec, execReceiveBegin, hp]

theorem wakes_pollReceived (s : State) : Wakes .pollReceived .rx .finish (finishWith 0) s where
  leaves := by decide
  enters hs hd hp := by
    rw [exec, execPollReceived, hp]
    refine (started_of_initDone .pollReceived _ hd).trans ?_
    rw [receiveDone_asleep _ _ hs]
    rfl
  polls hp := by rw [exec, execPollReceived, hp]; rfl

theorem wakes_ackReceived (src : Byte) (s : State) : Wakes (.ackReceived src) .rx .finish (finishWith 0) s where
  leaves := by decide
  enters hs hd hp := by
    rw [exec, execAckReceived, hp]
    refine (started_of_initDone (.ackReceived src) _ hd).trans ?_
    rw [ackReceivedThen_asleep _ _ hs]
    rfl
  polls hp := by rw [exec, execAckReceived, hp]; rfl

/-! ### The channel-clear wait, TransmitFrame and the ACK wait (R212, R230, R235) -/

/-- From Sleep the poll of the channel-clear wait re-arms (R212). -/
theorem csmaPollSegment_asleep {s : State} (h : s.mode = .sleep) :
    csmaPollSegment s = receiveBeginThen .csma (toPhase .csmaTest) s :=
  receiveDone_asleep _ _ h

theorem wakes_awaitClearChannel (s : State) : Wakes .awaitClearChannel .rx .csma (toPhase .csmaTest) s where
  leaves := by decide
  enters hs _ hp := by
    rw [exec, execAwaitClearChannel, hp]
    dsimp only
    rw [csmaPollSegment_asleep hs]
    rfl
  polls hp := by rw [exec, execAwaitClearChannel, hp]

/-- The transmit commands, which share SEND's body (R231, R232, R235). -/
def transmits (i : Instr) : Prop := (∃ a rq, i = .send a rq) ∨ i = .sendAck ∨ ∃ a b, i = .sendWithRetry a b

/-- Each of them runs SEND's body at its windows (R231, R232, R235). -/
theorem exec_sendBody {i : Instr} (hi : transmits i) {s : State} (hp : sendPhase s.phase = true) :
    ∃ x, exec i s = sendBody x s := by
  rcases hi with ⟨a, rq, rfl⟩ | rfl | ⟨a, b, rfl⟩
  · refine ⟨⟨a, rq, false, finish⟩, ?_⟩
    rw [exec, execSend]
    split
    · next start => simp [start, sendPhase] at hp
    · rfl
  · refine ⟨⟨s.work.savedSender, false, true, fun s => finish (restoreSlot s)⟩, ?_⟩
    rw [exec, execSendAck]
    split
    · next start => simp [start, sendPhase] at hp
    · rfl
  · refine ⟨⟨a, true, false, attemptDone⟩, ?_⟩
    rw [exec, execSendWithRetry]
    split
    · next start => simp [start, sendPhase] at hp
    · next retry => simp [retry, sendPhase] at hp
    · next ackWait => simp [ackWait, sendPhase] at hp
    · next m wake => cases m <;> simp [wake, sendPhase] at hp
    · rfl

theorem wakes_channelWait {i : Instr} (hi : transmits i) (s : State) : Wakes i .rx .csma (toPhase .csmaTest) s where
  leaves := by decide
  enters hs _ hp := by
    have hp : s.phase = .csmaPoll := hp
    obtain ⟨x, hx⟩ := exec_sendBody (s := s) hi (by rw [hp]; rfl)
    rw [hx, sendBody, hp]
    dsimp only
    rw [csmaPollSegment_asleep hs]
    rfl
  polls hp := by
    obtain ⟨x, hx⟩ := exec_sendBody (s := s) hi (by rw [hp]; rfl)
    rw [hx, sendBody, hp]

theorem wakes_transmitFrame {i : Instr} (hi : transmits i) (s : State) :
    Wakes i .standby .txStart (enterReadyWait .txReady) s where
  leaves := by decide
  enters _ _ hp := by
    have hp : s.phase = .txEnter := hp
    obtain ⟨x, hx⟩ := exec_sendBody (s := s) hi (by rw [hp]; rfl)
    rw [hx, sendBody, hp]
    rfl
  polls hp := by
    obtain ⟨x, hx⟩ := exec_sendBody (s := s) hi (by rw [hp]; rfl)
    rw [hx, sendBody, hp]

theorem wakes_ackWait (target retries : Byte) (s : State) :
    Wakes (.sendWithRetry target retries) .rx .ackPoll (toPhase .ackWait) s where
  leaves := by decide
  enters hs _ he := by
    obtain ⟨hp, before⟩ := he
    rw [exec, execSendWithRetry, hp]
    dsimp only
    rcases ackWaitSegment_cases target retries s with ⟨after, -⟩ | ⟨after, -⟩ | ⟨-, polls⟩
    · exact absurd after before
    · exact absurd after before
    · rw [polls, ackReceivedThen_asleep _ _ hs]
      rfl
  polls hp := by rw [exec, execSendWithRetry, hp]

/-- Settles O37: each wake enters its wait where the command reaches its SetMode, and the polls of its window stay or go
on with the command. -/
theorem sleepingRadioWakes : Obligations.SleepingRadioWakes := by
  intro s i m r u hcase
  have wake : Wakes i m r u s := by
    rcases hcase with ⟨rfl, rfl, rfl, rfl⟩ | ⟨rfl | ⟨f, rfl⟩, rfl, rfl, rfl⟩ | ⟨rfl | hi, rfl, rfl, rfl⟩ |
      ⟨⟨a, b, rfl⟩, rfl, rfl, rfl⟩ | ⟨hi, rfl, rfl, rfl⟩
    · exact wakes_receiveBegin s
    · exact wakes_pollReceived s
    · exact wakes_ackReceived f s
    · exact wakes_awaitClearChannel s
    · exact wakes_channelWait hi s
    · exact wakes_ackWait a b s
    · exact wakes_transmitFrame hi s
  refine ⟨fun hs hd hentry => wake.enters_window hs hd ?_, fun hp hend => ?_, fun hp hready hbound => ?_⟩
  · rcases hentry with ⟨rfl, hp⟩ | ⟨rfl, hp⟩ | ⟨rfl, hp⟩ | ⟨rfl, hp⟩ <;> exact hp
  · rw [wake.polls hp, wakePoll_ends hend]
  · rw [wake.polls hp, wakePoll_stays hready hbound]

end Sys2Proof.Machine
end

section
/-! SUPPORT. A payload longer than 61 bytes: WriteFrame cuts it, and what a command does in the unit after its WriteFrame
leaves the frame alone (R151, R153, R230). -/

namespace Sys2Proof.Machine

/-! ### The frame of a cut payload (R153) -/

/-- ARG_LEN is above MAX_DATA_LEN, and the bytes that are sent lie in host memory (R63, R153). -/
def OversizedPayload (s : State) : Prop := 61 < s.argLen.toNat ∧ s.argPtr.toNat + 61 ≤ 65536

/-- From s to u one frame of 61 payload bytes went to the FIFO: 65 bytes, the length byte 64 (R91, R153). -/
def FullFrameWritten (s u : State) : Prop :=
  u.chip.txFrame.length = 65 ∧ u.chip.txFrame.head? = some 64 ∧
    u.chip.txFifo = s.chip.txFifo ++ u.chip.txFrame

section
variable {s t u : State}

/-- Of an oversized payload WriteFrame reads exactly 61 bytes (R151, R153). -/
theorem payloadBytes_of_oversized (h : OversizedPayload s) :
    ∃ payload, payloadBytes s = some payload ∧ payload.length = 61 := by
  obtain ⟨above, inMemory⟩ := h
  have cut : min s.argLen.toNat 61 = 61 := Nat.min_eq_right above.le
  cases read : payloadBytes s with
  | none =>
    have outside := payloadBytes_eq_none.1 read
    omega
  | some payload =>
    obtain ⟨-, counted, -⟩ := payloadBytes_eq_some.1 read
    exact ⟨payload, rfl, counted.trans cut⟩

/-- The FIFO transaction of a frame with 61 payload bytes (R64, R91). -/
theorem fullFrameWritten_fifoWriteFrame (target own ctl : Byte) {payload : List Byte} (h : payload.length = 61) :
    FullFrameWritten s (fifoWriteFrame (frameBytes target own ctl payload) s) := by
  rw [fifoWriteFrame_eq]
  exact ⟨by simp [h], by simp [frameBytes, h], rfl⟩

/-- A part of a unit that writes no frame leaves the written one in place. -/
theorem FullFrameWritten.trans_frame (h : FullFrameWritten s t) (hk : UnitFrame .sleep t u) : FullFrameWritten s u := by
  have same : transmitRegisters u = transmitRegisters t := hk.transmit rfl
  have fifo : u.chip.txFifo = t.chip.txFifo := congrArg (fun r => r.1) same
  have frame : u.chip.txFrame = t.chip.txFrame := congrArg (fun r => r.2.1) same
  rwa [FullFrameWritten, fifo, frame]

/-- WriteFrame of an oversized payload completes and writes the cut frame, whatever follows it without another frame
(R151, R153). -/
theorem writeFrameThen_of_oversized {k : State → State} (target : Byte) (rq ar : Bool) (h : OversizedPayload s)
    (hk : ∀ t, UnitFrame .sleep t (k t)) :
    ∃ u, writeFrameThen target rq ar k s = .next u ∧ FullFrameWritten s u := by
  obtain ⟨payload, read, counted⟩ := payloadBytes_of_oversized h
  have written : FullFrameWritten { s with work := { s.work with lAcc := BitVec.ofNat 8 (payloadCount s) } }
      (fifoWriteFrame (frameBytes target s.ownAddr (buildCtl rq ar) payload)
        { s with work := { s.work with lAcc := BitVec.ofNat 8 (payloadCount s) } }) :=
    fullFrameWritten_fifoWriteFrame target s.ownAddr (buildCtl rq ar) counted
  exact ⟨_, by rw [writeFrameThen, read], written.trans_frame (hk _)⟩

/-! ### The four writers (R152, R231, R232, R235) -/

theorem exec_writeFrame_of_oversized (target : Byte) (rq ar : Bool) (h : OversizedPayload s) (hd : s.initDone = true) :
    ∃ u, exec (.writeFrame target rq ar) s = .next u ∧ FullFrameWritten s u := by
  have inMemory : s.argPtr.toNat + min s.argLen.toNat 61 ≤ 65536 :=
    (Nat.add_le_add_left (Nat.min_le_right _ _) _).trans h.2
  rw [exec_writeFrame hd inMemory]
  exact writeFrameThen_of_oversized target rq ar h unitFrame_finish

/-- The poll that ends TransmitFrame's mode-ready wait goes on to WriteFrame (R230). -/
theorem transmitReady_ends (x : Transmission) (h : modeReadyAnswer s = true ∨ ReadyBoundReached s) :
    transmitReady x s =
      writeFrameThen x.target x.reqAck x.ackReply (setModeThen .tx .txSend sentWait)
        (chipSetDio0Map true (chipReadModeReady s)) := by
  rcases transmitReady_cases x s with ⟨-, ends⟩ | ⟨⟨notReady, notReached⟩, -⟩
  · exact ends
  · simp [notReady, notReached] at h

/-- The unit of a transmit command that ends its mode-ready wait writes the cut frame: it is TransmitFrame's for whatever
transmission the command makes, and SetMode and the start of the packet-sent wait write no frame (R230). -/
theorem exec_transmit_of_oversized {i : Instr} (hi : transmits i) (h : OversizedPayload s) (hp : s.phase = .txReady)
    (hready : modeReadyAnswer s = true ∨ ReadyBoundReached s) :
    ∃ u, exec i s = .next u ∧ FullFrameWritten s u := by
  obtain ⟨x, body⟩ := exec_sendBody (s := s) hi (by rw [hp]; rfl)
  have unit : exec i s = transmitReady x s := by rw [body, sendBody, hp]
  have polled : OversizedPayload (chipSetDio0Map true (chipReadModeReady s)) := h
  rw [unit, transmitReady_ends x hready]
  exact writeFrameThen_of_oversized x.target x.reqAck x.ackReply polled fun t => unitFrame_setModeThen t fun _ => {}

end

/-- Settles O21: WriteFrame cuts the payload at 61 bytes, and all four writers send what it wrote. -/
theorem oversizedPayloadIsTruncated : Obligations.OversizedPayloadIsTruncated :=
  fun _ above inMemory =>
    ⟨fun target rq ar => exec_writeFrame_of_oversized target rq ar ⟨above, inMemory⟩,
      fun hp hready _ hi => exec_transmit_of_oversized hi ⟨above, inMemory⟩ hp hready⟩

end Sys2Proof.Machine
end

section
/-! SUPPORT. The receive commands of a node awake: ReceiveBegin without a wait, and the three branches of ReceiveDone
(R171 to R174). -/

namespace Sys2Proof.Machine

section
variable {s : State}

/-! ### ReceiveBegin awake (R171) -/

/-- The state ReceiveBegin leaves when it does not wait for a wake (R171). -/
def receiveBegun (s : State) : State := setModeNow .rx (rearm s)

theorem receiveBeginThen_awake (r : Resume) (k : State → State) (h : s.mode ≠ .sleep) :
    receiveBeginThen r k s = k (receiveBegun s) :=
  setModeThen_awake r k (.inl (by rwa [rearm_mode]))

@[simp] theorem receiveBegun_mode (s : State) : (receiveBegun s).mode = .rx := setModeNow_mode _ _

@[simp] theorem receiveBegun_dio0Map (s : State) : (receiveBegun s).dio0Map = false := by simp [receiveBegun]

@[simp] theorem receiveBegun_payloadReady (s : State) : (receiveBegun s).chip.payloadReady = false := by
  simp [receiveBegun]

@[simp] theorem receiveBegun_slot (s : State) :
    (receiveBegun s).slot = { resetSlot with payload := s.slot.payload } := by simp [receiveBegun]

/-- The re-arm's own transactions have opened the window outside the handler, whatever SetMode does (R309). -/
@[simp] theorem receiveBegun_ie (s : State) : (receiveBegun s).ie = !s.inIsr := by
  simp [receiveBegun, setModeNow_ie]

theorem receiveBegun_chipMode (s : State) :
    (receiveBegun s).chipMode = if s.mode = .rx then s.chipMode else .rx := by
  simp [receiveBegun, setModeNow_chipMode]

/-- The re-arm leaves HP_ON to SetMode, which turns the amplifiers off on entry to RX (R131). -/
theorem receiveBegun_hpOn (s : State) :
    (receiveBegun s).hpOn = if s.mode = .rx then s.hpOn else if s.params.hpVariant then false else s.hpOn := by
  simp [receiveBegun, setModeNow_hpOn, hpAfter_eq]

/-- ReceiveBegin writes the mode registers, the slot, IE, the chip and the record of transactions alone (R171). -/
theorem receiveBegun_frame (s : State) :
    receiveBegun s = { s with
      mode := (receiveBegun s).mode, chipMode := (receiveBegun s).chipMode, hpOn := (receiveBegun s).hpOn
      dio0Map := (receiveBegun s).dio0Map, slot := (receiveBegun s).slot, ie := !s.inIsr
      chip := (receiveBegun s).chip, busTrace := (receiveBegun s).busTrace } := by
  unfold receiveBegun
  by_cases h : (rearm s).mode = .rx
  · rw [setModeNow_same h, rearm_eq]
  · rw [setModeNow_other h, setModeBus_eq, rearm_eq]

/-! ### The commands at phase 0 (R172, R174) -/

/-- After INIT the two commands pass every check, and RECEIVE_BEGIN is ReceiveBegin (R172, R174, R302). -/
theorem exec_receiveBegin_start (hd : s.initDone = true) (hp : s.phase = .start) :
    exec .receiveBegin s = .next (receiveBeginThen .finish finish s) := by
  rw [exec, execReceiveBegin, hp]
  exact started_of_initDone .receiveBegin _ hd

/-- POLL_RECEIVED is ReceiveDone, its result the command's (R174). -/
theorem exec_pollReceived_start (hd : s.initDone = true) (hp : s.phase = .start) :
    exec .pollReceived s = .next (receiveDone .finish (finishWith 1) (finishWith 0) s) := by
  rw [exec, execPollReceived, hp]
  exact started_of_initDone .pollReceived _ hd

/-! ### ReceiveDone awake (R173) -/

/-- Filled: the held frame is taken in Standby (R173). -/
theorem receiveDone_filled (r : Resume) (kTrue kFalse : State → State) (h : s.mode = .rx) (hl : s.slot.frameLen ≠ 0) :
    receiveDone r kTrue kFalse s = kTrue (setModeNow .standby s) := by
  have leaves : s.mode ≠ .standby := by simp [h]
  rw [receiveDone, if_pos h, if_neg hl, setModeNow_masked leaves]

/-- Armed: interrupts are enabled, and that is all (R173). -/
theorem receiveDone_armed (r : Resume) (kTrue kFalse : State → State) (h : s.mode = .rx) (hl : s.slot.frameLen = 0) :
    receiveDone r kTrue kFalse s = kFalse { s with ie := true } := by
  rw [receiveDone, if_pos h, if_pos hl]

/-- Neither in RX nor asleep: the receiver is re-armed at once (R173). -/
theorem receiveDone_elsewhere (r : Resume) (kTrue kFalse : State → State) (h : s.mode ≠ .rx) (hs : s.mode ≠ .sleep) :
    receiveDone r kTrue kFalse s = kFalse (receiveBegun s) := by
  have awake : ({ s with ie := false } : State).mode ≠ .sleep := hs
  rw [receiveDone, if_neg h, receiveBeginThen_awake r kFalse awake, receiveBegun, rearm_masked, receiveBegun]

end

/-- Settles O22: awake, RECEIVE_BEGIN is ReceiveBegin without a wait and the end of the command. -/
theorem receiveBeginResult : Obligations.ReceiveBeginResult := by
  intro s hd hp hs
  refine ⟨finish (receiveBegun s), ?_, receiveBegun_mode s, receiveBegun_dio0Map s, receiveBegun_payloadReady s,
    receiveBegun_slot s, rfl, rfl, fun rx => ⟨?_, ?_⟩, fun rx => ⟨?_, ?_⟩, ?_⟩
  · rw [exec_receiveBegin_start hd hp, receiveBeginThen_awake _ _ hs]
  · rw [finish_chipMode, receiveBegun_chipMode, if_pos rx]
  · rw [finish_hpOn, receiveBegun_hpOn, if_pos rx]
  · rw [finish_chipMode, receiveBegun_chipMode, if_neg rx]
  · rw [finish_hpOn, receiveBegun_hpOn, if_neg rx]
  · exact congrArg finish (receiveBegun_frame s)

/-- Settles O23: each branch of ReceiveDone, and the command's result after it. -/
theorem pollReceivedResult : Obligations.PollReceivedResult := by
  intro s hd hp hi
  rw [exec_pollReceived_start hd hp]
  refine ⟨fun rx filled => ?_, fun rx armed => ?_, fun rx awake => ?_⟩
  · have leaves : s.mode ≠ .standby := by simp [rx]
    refine ⟨_, by rw [receiveDone_filled _ _ _ rx filled], rfl, ?_⟩
    simp [setModeNow_chipMode, setModeNow_hpOn, setModeNow_ie, leaves, hi, hpAfter]
  · rw [receiveDone_armed _ _ _ rx armed]
    rfl
  · refine ⟨_, by rw [receiveDone_elsewhere _ _ _ rx awake], rfl, ?_⟩
    simp [receiveBegun_chipMode, rx, hi, resetSlot]

end Sys2Proof.Machine
end

section
/-! SUPPORT. A capture run on a waiting frame: what every run ends with, whatever the filter says, and what the frame part
leaves on either path (R175 to R179, R188 to R190). -/

namespace Sys2Proof.Machine

/-! ### The run (R175, R309) -/

/-- The state in which a capture reads the waiting frame: the handler is entered and payload ready is read (R175). -/
def captureEntered (s : State) : State := chipReadPayloadReady (capEntry s)

section
variable {s t : State}

/-- With a frame waiting in RX, a capture is its frame part and then the RSSI sample (R175, R179). -/
theorem exec_capture_waiting (hm : s.mode = .rx) (hp : s.chip.payloadReady = true) :
    exec .capture s = .next (capExit (sampleRssi (captureFrame (captureEntered s)))) := by
  rcases execCapture_cases s with ⟨-, -, waiting⟩ | ⟨spurious, -⟩
  · exact waiting
  · simp [hm, hp] at spurious

theorem exists_exec_capture (hm : s.mode = .rx) (hp : s.chip.payloadReady = true) : ∃ t, exec .capture s = .next t :=
  ⟨_, exec_capture_waiting hm hp⟩

/-- The frame part takes no prepared sample and latches no edge (R179, R307). -/
theorem captureFrame_keeps (s : State) :
    (captureFrame s).answers = s.answers ∧ (captureFrame s).irqPending = s.irqPending := by
  rcases captureFrame_cases s with ⟨-, path⟩ | ⟨-, path⟩ <;> rw [path]
  · simp [captureAccept_eq]
  · simp [captureReject_eq]

/-- The radio is in RX with no frame waiting (R175, R316). -/
structure Received (s : State) : Prop where
  mode : s.mode = .rx
  chipMode : s.chipMode = .rx
  payloadReady : s.chip.payloadReady = false
  rxFifo : s.chip.rxFifo = []

/-- On either path the frame part puts the radio back in RX and empties the FIFO (R175, R316). -/
theorem received_of_captureFrame (hp : s.chip.payloadReady = true) : Received (captureFrame s) := by
  rcases captureFrame_cases s with ⟨-, path⟩ | ⟨-, path⟩ <;> rw [path]
  · rw [captureAccept_eq]
    constructor <;> simp [setModeNow_chipMode]
  · rw [captureReject_eq]
    constructor <;> simp [setModeNow_chipMode, rearm_eq, hp]

/-- What every capture of a waiting frame in s ends with: the sample last, the radio in RX with no frame waiting, and the
interrupt bits of a return from the handler (R175, R179, R309). -/
structure CaptureEnded (s t : State) : Prop where
  sampled : t.busTrace.head? = some (.readRssi t.slot.rssi)
  prepared : ∀ v, s.answers.rssi.head? = some v → t.slot.rssi = v
  received : Received t
  ie : t.ie = true
  inIsr : t.inIsr = false
  irqPending : t.irqPending = false

/-- A prepared RSSI sample is the one that is taken (R316). -/
theorem rssiAnswer_of_head? {v : Half} (h : s.answers.rssi.head? = some v) : rssiAnswer s = v := by
  rw [rssiAnswer, List.headD_eq_head?_getD, h, Option.getD_some]

/-- All that the end of a run does: the sample goes to RX_RSSI, and the handler is left (R179, R309). -/
theorem captureEnd_eq (u : State) :
    capExit (sampleRssi u) = { u with
      ie := true, inIsr := false
      slot := { u.slot with rssi := rssiAnswer u }
      answers := { u.answers with rssi := u.answers.rssi.tail }, draws := u.draws + 1
      busTrace := .readRssi (rssiAnswer u) :: u.busTrace } := by
  rw [sampleRssi, chipReadRssi_eq, capExit]

theorem captureEnded_of_frame {u : State} (answers : u.answers = s.answers) (irqPending : u.irqPending = false)
    (received : Received u) : CaptureEnded s (capExit (sampleRssi u)) := by
  obtain ⟨mode, chipMode, payloadReady, rxFifo⟩ := received
  rw [captureEnd_eq]
  exact ⟨rfl, fun _ hv => rssiAnswer_of_head? (answers ▸ hv), ⟨mode, chipMode, payloadReady, rxFifo⟩, rfl, rfl, irqPending⟩

theorem captureEnded (hm : s.mode = .rx) (hp : s.chip.payloadReady = true) (hx : exec .capture s = .next t) :
    CaptureEnded s t := by
  obtain rfl := Host.Outcome.next.inj ((exec_capture_waiting hm hp).symm.trans hx)
  obtain ⟨answers, irqPending⟩ := captureFrame_keeps (captureEntered s)
  exact captureEnded_of_frame answers irqPending (received_of_captureFrame hp)

/-! ### The filter and its two paths (R175, R176) -/

/-- The filter on a frame whose first two bytes are in the FIFO: the clamp is at least 3, so it leaves the test of the
length to the length byte (R176, R177). -/
theorem acceptsWaiting_iff {raw tgt : Byte} {rest : List Byte} (hf : s.chip.rxFifo = raw :: tgt :: rest) :
    acceptsWaiting s = true ↔ (s.promisc = true ∨ tgt = s.ownAddr ∨ tgt = 255) ∧ 3 ≤ raw.toNat := by
  obtain ⟨hclamp, -⟩ := rxLenClamp_bounds s
  have length : fifoByte s 0 = raw := fifoByte_of_getElem (by rw [hf]; rfl)
  have target : fifoByte s 1 = tgt := fifoByte_of_getElem (by rw [hf]; rfl)
  rw [acceptsWaiting, length, target, accepts_iff, clampLen_toNat, le_min_iff, and_iff_left hclamp]

/-- Entering the handler and reading payload ready changes nothing the filter looks at (R309). -/
theorem acceptsWaiting_entered (s : State) : acceptsWaiting (captureEntered s) = acceptsWaiting s := by
  rw [captureEntered, chipReadPayloadReady_eq]
  rfl

/-- The path of the frame part is the filter's answer (R175, R176). -/
theorem captureFrame_of_accepted (ha : acceptsWaiting s = true) :
    captureFrame s = captureAccept (clampLen s (fifoByte s 0)) (setModeNow .standby s) := by
  rcases captureFrame_cases s with ⟨-, path⟩ | ⟨rejected, -⟩
  · exact path
  · exact absurd (ha.symm.trans rejected) (by decide)

theorem captureFrame_of_rejected (ha : acceptsWaiting s = false) :
    captureFrame s = captureReject (setModeNow .standby s) := by
  rcases captureFrame_cases s with ⟨accepted, -⟩ | ⟨-, path⟩
  · exact absurd (ha.symm.trans accepted) (by decide)
  · exact path

/-- The accept path is no ReceiveBegin: DIO0 stays mapped as it was (R175). -/
theorem dio0Map_of_accepted (hm : s.mode = .rx) (hp : s.chip.payloadReady = true) (ha : acceptsWaiting s = true)
    (hx : exec .capture s = .next t) : t.dio0Map = s.dio0Map := by
  obtain rfl := Host.Outcome.next.inj ((exec_capture_waiting hm hp).symm.trans hx)
  rw [captureEnd_eq, captureFrame_of_accepted ((acceptsWaiting_entered s).trans ha), captureAccept_eq]
  simp [captureEntered, chipReadPayloadReady_eq]

/-- The reject path ends in a ReceiveBegin: the slot is cleared, what it had read of the frame included, and DIO0 is mapped
to payload ready (R171, R175). -/
theorem rearmed_of_rejected (hm : s.mode = .rx) (hp : s.chip.payloadReady = true) (ha : acceptsWaiting s = false)
    (hx : exec .capture s = .next t) :
    t.slot = { resetSlot with rssi := t.slot.rssi, payload := s.slot.payload } ∧ t.dio0Map = false := by
  obtain rfl := Host.Outcome.next.inj ((exec_capture_waiting hm hp).symm.trans hx)
  have rearmed : (captureFrame (captureEntered s)).slot = { resetSlot with payload := s.slot.payload } ∧
      (captureFrame (captureEntered s)).dio0Map = false := by
    rw [captureFrame_of_rejected ((acceptsWaiting_entered s).trans ha), captureReject_eq]
    simp [captureEntered, chipReadPayloadReady_eq]
  obtain ⟨slot, dio0Map⟩ := rearmed
  rw [captureEnd_eq, slot]
  exact ⟨rfl, dio0Map⟩

/-! ### What the accept path stores (R96, R178) -/

/-- The two ACK flags are the top bits of the control byte (R96). -/
theorem ctlFlags_eq_getLsbD : ∀ ctl : Byte, ctlAckRcvd ctl = ctl.getLsbD 7 ∧ ctlAckReq ctl = ctl.getLsbD 6 := by
  decide

/-- RX_DATA_LEN of an accepted frame is its payload length, capped at the buffer (R39, R175). -/
theorem acceptedSlot_dataLen {d : Nat} (hd : (clampLen s (fifoByte s 0)).toNat = d + 3) :
    (acceptedSlot s).dataLen.toNat = min d 61 := by
  have stored : (acceptedSlot s).dataLen = BitVec.ofNat 8 (min ((clampLen s (fifoByte s 0)).toNat - 3) 61) := rfl
  rw [stored, hd, BitVec.toNat_ofNat]
  omega

/-- A byte of the stored payload: the FIFO's below the payload length, the terminator there, the old byte above
(R178). -/
theorem acceptedSlot_payload_getElem {d : Nat} (hd : (clampLen s (fifoByte s 0)).toNat = d + 3) (i : Nat) (h : i < 61) :
    (acceptedSlot s).payload[i] =
      if i < d then fifoByte s (4 + i) else if i = d then 0 else s.slot.payload[i] := by
  have length : (clampLen s (fifoByte s 0)).toNat - 3 = d := by omega
  have stored : (acceptedSlot s).payload = storedPayload (fifoBytes s 4 d) s.slot.payload := by
    rw [← length]
    rfl
  simp only [stored, storedPayload_getElem, fifoBytes_length]
  split
  · next below => rw [List.getD_eq_getElem?_getD, fifoBytes_getElem? s 4 d i below, Option.getD_some]
  · rfl

/-- The same byte in terms of the frame: a byte of the frame is stored as far as the frame goes (R178). -/
theorem acceptedSlot_payload_cases {raw tgt snd ctl : Byte} {rest : List Byte} {d : Nat}
    (hf : s.chip.rxFifo = raw :: tgt :: snd :: ctl :: rest) (hd : (clampLen s (fifoByte s 0)).toNat = d + 3) (i : Nat)
    (h : i < 61) :
    (i < d → ∀ b, rest[i]? = some b → (acceptedSlot s).payload[i] = b) ∧
      (i = d → (acceptedSlot s).payload[i] = 0) ∧ (d < i → (acceptedSlot s).payload[i] = s.slot.payload[i]) := by
  rw [acceptedSlot_payload_getElem hd i h]
  refine ⟨fun below b hb => ?_, fun terminator => ?_, fun above => ?_⟩
  · have read : fifoByte s (4 + i) = b := fifoByte_of_getElem (by simpa [hf, Nat.add_comm 4] using hb)
    rw [if_pos below, read]
  · rw [if_neg (by omega), if_pos terminator]
  · rw [if_neg (by omega), if_neg (by omega)]

end

/-- Settles O27: the filter passes the frame, the run stores it, and ends as every capture of a waiting frame does. -/
theorem captureAccepts : Obligations.CaptureAccepts := by
  intro s raw tgt snd ctl rest len d hm hp hf hlen hmin hd ha
  have length : fifoByte s 0 = raw := fifoByte_of_getElem (by rw [hf]; rfl)
  have target : fifoByte s 1 = tgt := fifoByte_of_getElem (by rw [hf]; rfl)
  have sender : fifoByte s 2 = snd := fifoByte_of_getElem (by rw [hf]; rfl)
  have control : fifoByte s 3 = ctl := fifoByte_of_getElem (by rw [hf]; rfl)
  have clamped : (clampLen s (fifoByte s 0)).toNat = len := by rw [length, clampLen_toNat, hlen]
  have counted : (clampLen s (fifoByte s 0)).toNat = d + 3 := by omega
  have accepted : acceptsWaiting s = true := (acceptsWaiting_iff hf).2 ⟨ha, by omega⟩
  obtain ⟨flagRcvd, flagReq⟩ := ctlFlags_eq_getLsbD ctl
  obtain ⟨t, hx⟩ := exists_exec_capture hm hp
  obtain ⟨sampled, prepared, ⟨mode, chipMode, payloadReady, rxFifo⟩, ie, inIsr, irqPending⟩ := captureEnded hm hp hx
  refine ⟨t, hx, ?_⟩
  rw [slot_of_capture hm hp accepted hx]
  exact ⟨clamped, acceptedSlot_dataLen counted, sender, target, (congrArg ctlAckRcvd control).trans flagRcvd,
    (congrArg ctlAckReq control).trans flagReq, sampled, prepared, acceptedSlot_payload_cases hf counted, mode, chipMode,
    payloadReady, rxFifo, dio0Map_of_accepted hm hp accepted hx, ie, inIsr, irqPending⟩

/-- Settles O28: the filter stops the frame, so the run re-arms, and ends as every capture of a waiting frame does. -/
theorem captureRejects : Obligations.CaptureRejects := by
  intro s raw tgt rest hm hp hf hfilter
  have rejected : acceptsWaiting s = false := by
    rw [Bool.eq_false_iff, Ne, acceptsWaiting_iff hf]
    rintro ⟨address, length⟩
    rcases hfilter with ⟨promisc, own, broadcast⟩ | short
    · exact address.elim (by simp [promisc]) (·.elim own broadcast)
    · omega
  obtain ⟨t, hx⟩ := exists_exec_capture hm hp
  obtain ⟨sampled, prepared, ⟨mode, chipMode, payloadReady, rxFifo⟩, ie, inIsr, irqPending⟩ := captureEnded hm hp hx
  obtain ⟨slot, dio0Map⟩ := rearmed_of_rejected hm hp rejected hx
  have armed : pipeline t = .armed := by
    rw [pipeline, if_pos mode, slot]
    rfl
  exact ⟨t, hx, slot, sampled, prepared, armed, chipMode, dio0Map, payloadReady, rxFifo, ie, inIsr, irqPending⟩

/-- Outside RX, ACK_REQUESTED answers the flag of a frame that was not broadcast (R187). -/
theorem exec_ackRequested {s : State} (hd : s.initDone = true) (hm : s.mode ≠ .rx) :
    exec .ackRequested s = .next { s with
      result := if s.slot.ackReq = true ∧ s.slot.target ≠ 255 then 1 else 0, busy := false, phase := .start } := by
  obtain ⟨-, -, -, -, -, -, answer⟩ := slotAccessorResults s hd hm
  exact answer

/-- Settles O25: an accepted broadcast leaves its target in the slot, and a rejected one leaves no flag; ACK_REQUESTED
answers 0 to either. -/
theorem broadcastIsNeverAcked : Obligations.BroadcastIsNeverAcked := by
  intro s u rest len sender ctl hm hp hf hx m hmode
  have target : fifoByte s 1 = 255 := fifoByte_of_getElem (by rw [hf]; rfl)
  have unasked : ¬(u.slot.ackReq = true ∧ u.slot.target ≠ 255) := by
    cases accepted : acceptsWaiting s with
    | true =>
      rw [slot_of_capture hm hp accepted hx]
      exact fun ⟨_, other⟩ => other target
    | false =>
      obtain ⟨slot, -⟩ := rearmed_of_rejected hm hp accepted hx
      rw [slot]
      exact fun ⟨asked, _⟩ => Bool.noConfusion asked
  exact ⟨_, exec_ackRequested rfl hmode, if_neg unasked⟩

/-! ### A second frame (R178, R189) -/

/-- The buffer after StorePayload of fewer than 61 bytes: the payload, the terminator, and the old bytes above (R178). -/
theorem storedPayload_toList {pay : List Byte} (old : Vector Byte 61) (h : pay.length < 61) :
    (storedPayload pay old).toList = pay ++ 0 :: old.toList.drop (pay.length + 1) := by
  refine List.ext_getElem (by simp; omega) fun i hi _ => ?_
  rw [Vector.length_toList] at hi
  rw [Vector.getElem_toList, storedPayload_getElem]
  rcases lt_trichotomy i pay.length with below | rfl | above
  · simp [below]
  · simp
  · obtain ⟨k, rfl⟩ := Nat.exists_eq_add_of_lt above
    simp [Nat.add_assoc, Nat.add_comm 1]

/-- A frame that arrives at an armed node is received (R316). -/
theorem received_of_armed {bytes : List Byte} {s t : State} (hs : Armed s) (ht : frameArrives bytes s = .next t) :
    t = receiving bytes s :=
  Host.Outcome.next.inj
    (ht.symm.trans (frameArrives_received (hs.opMode.trans hs.chipMode.symm) hs.chipMode hs.empty))

/-- Settles O33: the clamp shortens no length byte that the frame is as long as, so the slot is the new frame's, and the
terminator has room in the buffer. -/
theorem secondFrameOverwrites : Obligations.SecondFrameOverwrites := by
  intro s t u f i hi hcomplete hlen hm hc ho hp ha ht hu
  obtain ⟨c, rfl, -⟩ := class_of_row (fun _ => ()) (f := f) (i := i) (x := ()) (by simpa using hi)
  rw [exec_frameOfClass] at ht
  have counted : f.len.toNat = f.payload.length + 3 := by simpa [FrameBody.complete] using hcomplete
  have inClamp : min f.len.toNat (rxLenClamp s) = f.len.toNat := by omega
  have frameLen : clampLen s f.len = f.len := BitVec.eq_of_toNat_eq ((clampLen_toNat s f.len).trans inClamp)
  obtain ⟨dataLen, stored⟩ := acceptedSlot_whole (s := s) (target := f.target) (sender := f.sender)
    (ctl := c ++ f.ctlLow) counted (by omega)
  have buffer := storedPayload_toList (pay := f.payload) s.slot.payload (by omega)
  have slot := slot_of_delivery ⟨hm, hc, ho, hp⟩ (by omega) ha ht hu
  obtain rfl := received_of_armed ⟨hm, hc, ho, hp⟩ ht
  have ended : CaptureEnded (receiving (frameImage c f) s) u := captureEnded hm rfl hu
  rw [slot]
  refine ⟨frameLen, ?_, rfl, rfl, ended.prepared, ?_, ?_⟩
  · simp only [dataLen, BitVec.toNat_ofNat]
    omega
  · simp [stored, buffer, List.take_append]
  · simp [stored, buffer]

end Sys2Proof.Machine
end

section
/-! SUPPORT. CanSend, its effect and its result in each case, and its command (R210, R211). -/

namespace Sys2Proof.Machine

section
variable {s : State}

/-! ### CanSend (R210, R211) -/

/-- A claimed channel: the sample, and then Standby (R210). -/
theorem canSendEffect_of_claimed (h : canSendResult s = true) :
    canSendEffect s = setModeNow .standby (chipReadRssi s) := by
  rcases canSendEffect_cases s with ⟨-, unclaimed, -⟩ | ⟨-, unclaimed, -⟩ | ⟨-, -, claims⟩
  · exact absurd (h.symm.trans unclaimed) (by decide)
  · exact absurd (h.symm.trans unclaimed) (by decide)
  · exact claims

/-- CanSend samples and claims, so it keeps what a sample and a SetMode to Standby both keep (R210). -/
theorem canSendEffect_keeps {α : Type} (field : State → α) (sampled : ∀ t, field (chipReadRssi t) = field t)
    (claimed : ∀ t, field (setModeNow .standby t) = field t) (s : State) : field (canSendEffect s) = field s := by
  rcases canSendEffect_cases s with ⟨-, -, h⟩ | ⟨-, -, h⟩ | ⟨-, -, h⟩ <;> rw [h]
  · exact sampled s
  · exact (claimed _).trans (sampled s)

@[simp] theorem canSendEffect_slot (s : State) : (canSendEffect s).slot = s.slot :=
  canSendEffect_keeps State.slot (fun _ => rfl) (setModeNow_slot _) s

@[simp] theorem canSendEffect_work (s : State) : (canSendEffect s).work = s.work :=
  canSendEffect_keeps State.work (fun _ => rfl) (setModeNow_work _) s

@[simp] theorem canSendEffect_busy (s : State) : (canSendEffect s).busy = s.busy :=
  canSendEffect_keeps State.busy (fun _ => rfl) (setModeNow_busy _) s

@[simp] theorem canSendEffect_result (s : State) : (canSendEffect s).result = s.result :=
  canSendEffect_keeps State.result (fun _ => rfl) (setModeNow_result _) s

/-- Only a claim changes the mode (R210). -/
theorem canSendEffect_mode (s : State) :
    (canSendEffect s).mode = if canSendResult s = true then .standby else s.mode := by
  rcases canSendEffect_cases s with ⟨-, result, h⟩ | ⟨-, result, h⟩ | ⟨-, result, h⟩ <;> rw [h, result]
  · rfl
  · rfl
  · exact setModeNow_mode _ _

theorem canSendEffect_mode_of_claimed (h : canSendResult s = true) : (canSendEffect s).mode = .standby := by
  rw [canSendEffect_mode, if_pos h]

theorem canSendEffect_mode_of_unclaimed (h : canSendResult s = false) : (canSendEffect s).mode = s.mode := by
  rw [canSendEffect_mode, if_neg (by simp [h])]

/-- Of a claim the chip sees two transactions, the sample and its new mode; the amplifiers stay as they were (R131,
R210). -/
theorem canSendEffect_transactions (h : canSendResult s = true) :
    (canSendEffect s).chipMode = .standby ∧ (canSendEffect s).hpOn = s.hpOn ∧
      (canSendEffect s).busTrace = .setOpMode .standby :: .readRssi (rssiAnswer s) :: s.busTrace := by
  obtain ⟨rx, -, -⟩ := (canSendResult_iff s).1 h
  have leaves : (chipReadRssi s).mode ≠ .standby := by simp [chipReadRssi_eq, rx]
  rw [canSendEffect_of_claimed h, setModeNow_other leaves, setModeBus_eq, chipReadRssi_eq]
  simp [hpAfter, traceAfter]

/-- A sample at the threshold or above claims nothing, and nothing but the sample is done (R210). -/
theorem canSend_of_sample_above (rx : s.mode = .rx) (empty : s.slot.frameLen = 0)
    (above : s.params.csmaThreshold.toInt ≤ (rssiAnswer s).toInt) :
    canSendResult s = false ∧ canSendEffect s = chipReadRssi s := by
  rcases canSendEffect_cases s with ⟨noSample, -⟩ | ⟨-, unclaimed, samples⟩ | ⟨-, claimed, -⟩
  · simp [canSample, rx, empty] at noSample
  · exact ⟨unclaimed, samples⟩
  · obtain ⟨-, -, below⟩ := (canSendResult_iff s).1 claimed
    exact absurd above (Int.not_le.2 below)

/-- Outside RX, or with a frame pending, CanSend does nothing (R210). -/
theorem canSend_of_not_armed (h : s.mode ≠ .rx ∨ s.slot.frameLen ≠ 0) :
    canSendResult s = false ∧ canSendEffect s = s := by
  have noSample : canSample s = false := decide_eq_false fun ⟨rx, empty⟩ => h.elim (· rx) (· empty)
  rcases canSendEffect_cases s with ⟨-, unclaimed, nothing⟩ | ⟨samples, -⟩ | ⟨samples, -⟩
  · exact ⟨unclaimed, nothing⟩
  · exact absurd (samples.symm.trans noSample) (by decide)
  · exact absurd (samples.symm.trans noSample) (by decide)

/-- After INIT, CAN_SEND is CanSend and its result (R211). -/
theorem exec_canSend (hd : s.initDone = true) :
    exec .canSend s = .next (finishWith (boolWord (canSendResult s)) (canSendEffect s)) := by
  rw [exec, execCanSend]
  exact started_of_initDone .canSend _ hd

/-- A claim ends CAN_SEND with 1, in Standby (R210, R211). -/
theorem exec_canSend_of_claimed (hd : s.initDone = true) (h : canSendResult s = true) :
    exec .canSend s = .next (finishWith 1 (canSendEffect s)) := by
  rw [exec_canSend hd, h]
  rfl

/-- Without a claim it ends with 0 (R210, R211). -/
theorem exec_canSend_of_unclaimed (hd : s.initDone = true) (h : canSendResult s = false) :
    exec .canSend s = .next (finishWith 0 (canSendEffect s)) := by
  rw [exec_canSend hd, h]
  rfl

end

end Sys2Proof.Machine

namespace Sys2Proof
open Machine

/-- Settles O34: the claim, the sample at the threshold or above, and no sample. It stands outside the model's
namespace, where its name is that of CanSend's result. -/
theorem canSendResult : Obligations.CanSendResult := by
  intro s hd
  refine ⟨fun rx empty below => ?_, fun rx empty above => ?_, fun notArmed => ?_⟩
  · have claimed := (canSendResult_iff s).2 ⟨rx, empty, below⟩
    obtain ⟨chipMode, hpOn, trace⟩ := canSendEffect_transactions claimed
    exact ⟨_, exec_canSend_of_claimed hd claimed, rfl, canSendEffect_mode_of_claimed claimed, chipMode, hpOn,
      canSendEffect_slot s, rfl, trace⟩
  · obtain ⟨unclaimed, sample⟩ := canSend_of_sample_above rx empty above
    rw [exec_canSend_of_unclaimed hd unclaimed, sample, chipReadRssi_eq]
    rfl
  · obtain ⟨unclaimed, nothing⟩ := canSend_of_not_armed notArmed
    rw [exec_canSend_of_unclaimed hd unclaimed, nothing]
    rfl

end Sys2Proof
end

section
/-! SUPPORT. The two units of the channel-clear wait, which AWAIT_CLEAR_CHANNEL and the transmit commands share, and
where each command goes on after them (R212 to R214, R231). -/

namespace Sys2Proof.Machine

section
variable {s : State} {i : Instr}

/-! ### The pipeline state (R50) -/

theorem pipeline_armed (rx : s.mode = .rx) (empty : s.slot.frameLen = 0) : pipeline s = .armed := by
  rw [pipeline, if_pos rx, if_pos empty]

theorem pipeline_consumed (rx : s.mode ≠ .rx) (filled : s.slot.frameLen ≠ 0) : pipeline s = .consumed := by
  rw [pipeline, if_neg rx, if_neg filled]

/-! ### ReceiveBegin awake (R171) -/

@[simp] theorem receiveBegun_busy (s : State) : (receiveBegun s).busy = s.busy := by simp [receiveBegun]

@[simp] theorem receiveBegun_work (s : State) : (receiveBegun s).work = s.work := by simp [receiveBegun]

/-! ### The test (R212) -/

/-- A claimed channel ends the wait, whatever the time (R212). -/
theorem csmaTestSegment_of_claimed (bound : Word) (done : Bool → State → State) (h : canSendResult s = true) :
    csmaTestSegment bound done s = done true (canSendEffect s) := by
  rcases csmaTestSegment_cases bound done s with ⟨-, ends⟩ | ⟨unclaimed, -⟩ | ⟨unclaimed, -⟩
  · exact ends
  · exact absurd (h.symm.trans unclaimed) (by decide)
  · exact absurd (h.symm.trans unclaimed) (by decide)

/-- Without a claim the deadline decides between the end of the wait and the second window (R212). -/
theorem csmaTestSegment_of_unclaimed (bound : Word) (done : Bool → State → State) (h : canSendResult s = false) :
    csmaTestSegment bound done s =
      if bound ≤ s.clock - s.work.tCsma then done false (canSendEffect s) else toPhase .csmaPoll (canSendEffect s) := by
  rcases csmaTestSegment_cases bound done s with ⟨claimed, -⟩ | ⟨-, reached, ends⟩ | ⟨-, notReached, polls⟩
  · exact absurd (claimed.symm.trans h) (by decide)
  · rw [ends, if_pos reached]
  · rw [polls, if_neg notReached]

/-! ### The poll (R212) -/

/-- Armed: back to the test, with interrupts enabled (R173, R212). -/
theorem csmaPollSegment_armed (rx : s.mode = .rx) (empty : s.slot.frameLen = 0) :
    csmaPollSegment s = { s with ie := true, phase := .csmaTest } :=
  receiveDone_armed _ _ _ rx empty

/-- Filled: the frame is consumed, and nobody is told (R173, R212). -/
theorem csmaPollSegment_filled (rx : s.mode = .rx) (filled : s.slot.frameLen ≠ 0) :
    csmaPollSegment s = toPhase .csmaTest (setModeNow .standby s) :=
  receiveDone_filled _ _ _ rx filled

/-- In another mode, awake, the pipeline is re-armed (R173, R212). -/
theorem csmaPollSegment_elsewhere (rx : s.mode ≠ .rx) (awake : s.mode ≠ .sleep) :
    csmaPollSegment s = toPhase .csmaTest (receiveBegun s) :=
  receiveDone_elsewhere _ _ _ rx awake

theorem pipeline_csmaPollSegment_filled (rx : s.mode = .rx) (filled : s.slot.frameLen ≠ 0) :
    pipeline (csmaPollSegment s) = .consumed := by
  rw [csmaPollSegment_filled rx filled]
  exact pipeline_consumed (by simp) (by simpa using filled)

theorem pipeline_csmaPollSegment_elsewhere (rx : s.mode ≠ .rx) (awake : s.mode ≠ .sleep) :
    pipeline (csmaPollSegment s) = .armed := by
  rw [csmaPollSegment_elsewhere rx awake]
  exact pipeline_armed (by simp) (by simp [resetSlot])

/-! ### AWAIT_CLEAR_CHANNEL (R213) -/

theorem exec_awaitClearChannel_start (hd : s.initDone = true) (hp : s.phase = .start) :
    exec .awaitClearChannel s = .next (csmaBegin s) := by
  rw [exec, execAwaitClearChannel, hp]
  exact started_of_initDone .awaitClearChannel _ hd

/-- Its bound is ARG_TMO, and its result is whether the channel was claimed (R213). -/
theorem exec_awaitClearChannel_test (hp : s.phase = .csmaTest) :
    exec .awaitClearChannel s = .next (csmaTestSegment s.argTmo (fun r => finishWith (boolWord r)) s) := by
  rw [exec, execAwaitClearChannel, hp]

theorem exec_awaitClearChannel_poll (hp : s.phase = .csmaPoll) :
    exec .awaitClearChannel s = .next (csmaPollSegment s) := by
  rw [exec, execAwaitClearChannel, hp]

/-! ### The transmit commands (R214, R231) -/

/-- A unit that SEND's body has for every transmission is the unit of each transmit command (R231, R232, R235). -/
theorem exec_eq_of_sendBody (hi : transmits i) {o : Result} (hp : sendPhase s.phase = true)
    (unit : ∀ x, sendBody x s = o) : exec i s = o := by
  obtain ⟨x, body⟩ := exec_sendBody hi hp
  exact body.trans (unit x)

theorem exec_csmaEnter (hi : transmits i) (hp : s.phase = .csmaEnter) : exec i s = .next (csmaBegin s) :=
  exec_eq_of_sendBody hi (by rw [hp]; rfl) fun x => by rw [sendBody, hp]

/-- The bound is CSMA_TIMEOUT_MS, and either end of the wait is the window before TransmitFrame (R214). -/
theorem exec_csmaTest (hi : transmits i) (hp : s.phase = .csmaTest) :
    exec i s = .next (csmaTestSegment s.params.csmaTimeout (fun _ => toPhase .txEnter) s) :=
  exec_eq_of_sendBody hi (by rw [hp]; rfl) fun x => by rw [sendBody, hp]

theorem exec_csmaPoll (hi : transmits i) (hp : s.phase = .csmaPoll) : exec i s = .next (csmaPollSegment s) :=
  exec_eq_of_sendBody hi (by rw [hp]; rfl) fun x => by rw [sendBody, hp]

/-- Awake, TransmitFrame starts with Standby at once and its mode-ready wait (R230). -/
theorem exec_txEnter (hi : transmits i) (hp : s.phase = .txEnter) (awake : s.mode ≠ .sleep) :
    exec i s = .next (enterReadyWait .txReady (setModeNow .standby s)) := by
  have unit : exec i s = .next (transmitStart s) :=
    exec_eq_of_sendBody hi (by rw [hp]; rfl) fun x => by rw [sendBody, hp]
  rw [unit, transmitStart, setModeThen_awake _ _ (.inl awake)]

end

/-- Settles O35: the test's three ends, and ReceiveDone's three branches at the poll. -/
theorem awaitClearChannelUnits : Obligations.AwaitClearChannelUnits := by
  intro s
  refine ⟨exec_awaitClearChannel_start, fun hp claimed => ?_, fun hp unclaimed reached => ?_,
    fun hp unclaimed before => ?_, fun hp rx empty => ?_, fun hp rx filled => ?_, fun hp rx awake => ?_⟩
  · refine ⟨_, exec_awaitClearChannel_test hp, ?_⟩
    rw [csmaTestSegment_of_claimed _ _ claimed]
    exact ⟨rfl, canSendEffect_mode_of_claimed claimed, rfl, rfl, canSendEffect_slot s⟩
  · refine ⟨_, exec_awaitClearChannel_test hp, ?_⟩
    rw [csmaTestSegment_of_unclaimed _ _ unclaimed, if_pos reached]
    exact ⟨rfl, canSendEffect_mode_of_unclaimed unclaimed, rfl, rfl, canSendEffect_slot s⟩
  · refine ⟨_, exec_awaitClearChannel_test hp, ?_⟩
    rw [csmaTestSegment_of_unclaimed _ _ unclaimed, if_neg before]
    exact ⟨canSendEffect_result s, canSendEffect_mode_of_unclaimed unclaimed, canSendEffect_busy s, rfl,
      canSendEffect_slot s⟩
  · rw [exec_awaitClearChannel_poll hp, csmaPollSegment_armed rx empty]
  · refine ⟨_, exec_awaitClearChannel_poll hp, pipeline_csmaPollSegment_filled rx filled, ?_⟩
    rw [csmaPollSegment_filled rx filled]
    exact ⟨setModeNow_slot _ s, rfl⟩
  · refine ⟨_, exec_awaitClearChannel_poll hp, pipeline_csmaPollSegment_elsewhere rx awake, ?_⟩
    rw [csmaPollSegment_elsewhere rx awake]
    simp [resetSlot]

/-- Settles O36: the wait is the one of AWAIT_CLEAR_CHANNEL, but either end of it leads to TransmitFrame. -/
theorem channelWaitIsAdvisory : Obligations.ChannelWaitIsAdvisory := by
  intro s i hi
  refine ⟨exec_csmaEnter hi, fun hp claimed => ?_, fun hp unclaimed => ?_, fun hp rx empty => ?_,
    fun hp rx filled => ?_, fun hp rx awake => ?_, fun hp awake => ?_⟩
  · refine ⟨_, exec_csmaTest hi hp, ?_⟩
    rw [csmaTestSegment_of_claimed _ _ claimed]
    exact ⟨rfl, canSendEffect_mode_of_claimed claimed, canSendEffect_slot s, canSendEffect_busy s, canSendEffect_work s⟩
  · refine ⟨_, exec_csmaTest hi hp, ?_⟩
    rw [csmaTestSegment_of_unclaimed _ _ unclaimed]
    split <;> simp [canSendEffect_mode_of_unclaimed unclaimed]
  · rw [exec_csmaPoll hi hp, csmaPollSegment_armed rx empty]
  · refine ⟨_, exec_csmaPoll hi hp, pipeline_csmaPollSegment_filled rx filled, ?_⟩
    rw [csmaPollSegment_filled rx filled]
    simp
  · refine ⟨_, exec_csmaPoll hi hp, pipeline_csmaPollSegment_elsewhere rx awake, ?_⟩
    rw [csmaPollSegment_elsewhere rx awake]
    simp [State.reset]
  · refine ⟨_, exec_txEnter hi hp awake, ?_⟩
    simp

end Sys2Proof.Machine
end

section
/-! SUPPORT. ATTEMPT and SEND_ACK's saved fields through every unit (R232, R235, R236): inside an attempt and inside the
ACK wait nothing writes them, and what follows TransmitFrame writes ATTEMPT alone. -/

namespace Sys2Proof.Machine

/-! ### Attempts (R235) -/

/-- The positions of SEND_WITH_RETRY inside an attempt: all past the start but those of the ACK wait (R235). -/
def attempting : Phase → Bool
  | .start | .ackWait | .wake _ .ackPoll => false
  | _ => true

/-- The positions at which TransmitFrame can end (R230). -/
def endsTransmission (p : Phase) : Prop := p = .txSent ∨ ∃ m, p = .wake m .txEnd

/-- The working registers that outlive a transmission: ATTEMPT and what SEND_ACK saved (R232, R235). -/
def savedWork (s : State) : BitVec 9 × Byte × Half := (s.work.attempt, s.work.savedSender, s.work.savedRssi)

/-- A unit that began in s stops at u, inside an attempt or outside, and leaves those registers alone. -/
structure Stops (inside : Bool) (s u : State) : Prop where
  saved : savedWork u = savedWork s := by rfl
  phase : attempting u.phase = inside := by rfl

theorem attempting_eq_false {p : Phase} :
    attempting p = false ↔ p = .start ∨ p = .ackWait ∨ ∃ m, p = .wake m .ackPoll := by
  cases p with
  | wake m r => cases r <;> simp [attempting]
  | _ => simp [attempting]

theorem endsTransmission.attempting {p : Phase} (h : endsTransmission p) : attempting p = true := by
  rcases h with rfl | ⟨m, rfl⟩ <;> rfl

section
variable {inside : Bool} {s t u : State} {k : State → State}

theorem Stops.of_saved (h : Stops inside t u) (hs : savedWork t = savedWork s) : Stops inside s u :=
  ⟨h.saved.trans hs, h.phase⟩

/-! ### The shared routines -/

theorem stops_setModeThen {m : Mode} {r : Resume} (s : State) (hk : ∀ t, Stops inside t (k t))
    (hwake : attempting (.wake m r) = inside := by rfl) : Stops inside s (setModeThen m r k s) := by
  rcases setModeThen_cases m r k s with ⟨-, -, h⟩ | ⟨-, h⟩ <;> rw [h]
  · exact ⟨by simp [savedWork], hwake⟩
  · exact (hk _).of_saved (by simp [savedWork])

theorem stops_receiveDone {r : Resume} {kTrue kFalse : State → State} (s : State)
    (hT : ∀ t, Stops inside t (kTrue t)) (hF : ∀ t, Stops inside t (kFalse t))
    (hwake : attempting (.wake .rx r) = inside := by rfl) : Stops inside s (receiveDone r kTrue kFalse s) := by
  rcases receiveDone_cases r kTrue kFalse s with ⟨-, -, h⟩ | ⟨-, -, h⟩ | ⟨-, h⟩ <;> rw [h]
  · exact (hT _).of_saved (by simp [savedWork])
  · exact (hF _).of_saved rfl
  · exact (stops_setModeThen _ hF hwake).of_saved (by simp [savedWork])

/-- A poll of a wake wait stays at its window, or the command goes on (R130, R132). -/
theorem stops_wakePoll {m : Mode} (s : State) (hp : attempting s.phase = inside) (hk : ∀ t, Stops inside t (k t)) :
    Stops inside s (wakePoll m k s) := by
  rcases wakePoll_cases m k s with ⟨-, h⟩ | ⟨-, h⟩ <;> rw [h]
  · exact (hk _).of_saved rfl
  · exact ⟨rfl, hp⟩

/-! ### The units of an attempt (R212, R230, R231) -/

theorem stops_toPhase (p : Phase) (s : State) : Stops (attempting p) s (toPhase p s) := {}

theorem stops_sendHead (s : State) : Stops true s (sendHead s) := {}

theorem stops_csmaTestSegment (bound : Word) (s : State) :
    Stops true s (csmaTestSegment bound (fun _ => toPhase .txEnter) s) := by
  have sensed : savedWork (canSendEffect s) = savedWork s := by simp [savedWork]
  rcases csmaTestSegment_cases bound (fun _ => toPhase .txEnter) s with ⟨-, h⟩ | ⟨-, -, h⟩ | ⟨-, -, h⟩ <;>
    rw [h]
  · exact (stops_toPhase .txEnter _).of_saved sensed
  · exact (stops_toPhase .txEnter _).of_saved sensed
  · exact (stops_toPhase .csmaPoll _).of_saved sensed

theorem stops_csmaPollSegment (s : State) : Stops true s (csmaPollSegment s) :=
  stops_receiveDone s (stops_toPhase .csmaTest) (stops_toPhase .csmaTest)

theorem stops_sentWait (s : State) : Stops true s (sentWait s) := {}

theorem stops_writeFrameThen {target : Byte} {rq ar : Bool} (s : State) (hk : ∀ t, Stops inside t (k t)) :
    Ensures (writeFrameThen target rq ar k s) (Stops inside s) := by
  rcases writeFrameThen_cases target rq ar k s with ⟨-, h⟩ | ⟨payload, -, h⟩ <;> rw [h]
  · exact .fault _ _
  · exact .next ((hk _).of_saved rfl)

theorem stops_transmitReady (x : Transmission) (s : State) (hp : s.phase = .txReady) :
    Ensures (transmitReady x s) (Stops true s) := by
  rcases transmitReady_cases x s with ⟨-, h⟩ | ⟨-, h⟩ <;> rw [h]
  · have mapped : savedWork (chipSetDio0Map true (chipReadModeReady s)) = savedWork s := by
      simp only [savedWork, chipSetDio0Map_eq, chipReadModeReady_eq]
    exact fun u hu =>
      (stops_writeFrameThen _ (fun t => stops_setModeThen t stops_sentWait) u hu).of_saved mapped
  · exact .next ⟨rfl, by rw [chipReadModeReady_eq, hp]; rfl⟩

/-- A unit of SEND's body stops inside the attempt, or TransmitFrame ends and what follows it is done (R230, R231). -/
def BodyUnit (x : Transmission) (s u : State) : Prop :=
  Stops true s u ∨ (endsTransmission s.phase ∧ ∃ v, savedWork v = savedWork s ∧ u = x.after v)

theorem bodyUnit_transmitSent (x : Transmission) (s : State) (hp : s.phase = .txSent) :
    BodyUnit x s (transmitSent x s) := by
  rcases transmitSent_cases x s with ⟨-, h⟩ | ⟨-, h⟩ <;> rw [h]
  · rcases setModeThen_cases .standby .txEnd x.after (chipReadPacketSent s) with ⟨-, -, h⟩ | ⟨-, h⟩ <;> rw [h]
    · exact .inl ⟨by simp [savedWork, chipReadPacketSent_eq], rfl⟩
    · exact .inr ⟨.inl hp, _, by simp [savedWork, chipReadPacketSent_eq], rfl⟩
  · exact .inl ⟨rfl, by rw [chipReadPacketSent_eq, hp]; rfl⟩

theorem bodyUnit_wakePoll (x : Transmission) {m : Mode} (s : State) (hp : s.phase = .wake m .txEnd) :
    BodyUnit x s (wakePoll m x.after s) := by
  rcases wakePoll_cases m x.after s with ⟨-, h⟩ | ⟨-, h⟩ <;> rw [h]
  · exact .inr ⟨.inr ⟨m, hp⟩, { chipReadModeReady s with mode := m }, rfl, rfl⟩
  · exact .inl ⟨rfl, by rw [chipReadModeReady_eq, hp]; rfl⟩

theorem bodyUnit_sendBody (x : Transmission) (s : State) : Ensures (sendBody x s) (BodyUnit x s) := by
  unfold sendBody
  split
  · exact .next (.inl {})
  · exact .next (.inl (stops_csmaTestSegment _ s))
  · exact .next (.inl (stops_csmaPollSegment s))
  · exact .next (.inl (stops_setModeThen s fun _ => {}))
  · next hp => exact fun u hu => .inl (stops_transmitReady x s hp u hu)
  · next hp => exact .next (bodyUnit_transmitSent x s hp)
  · next hp => exact .next (.inl (stops_wakePoll s (by rw [hp]; rfl) (stops_toPhase .csmaTest)))
  · next hp => exact .next (.inl (stops_wakePoll s (by rw [hp]; rfl) fun _ => {}))
  · next hp => exact .next (.inl (stops_wakePoll s (by rw [hp]; rfl) stops_sentWait))
  · next hp => exact .next (bodyUnit_wakePoll x s hp)
  · exact .fault _ _

/-! ### The units of SEND_WITH_RETRY (R235) -/

/-- What a unit of SEND_WITH_RETRY past its first does with ATTEMPT: the ACK wait goes on or the command ends, the next
attempt begins, the attempt goes on, or TransmitFrame ends and the attempt is counted (R235). -/
inductive RetryUnit (retries : Byte) (s u : State) : Prop where
  | waits (hs : attempting s.phase = false) (hu : Stops false s u)
  | retries (hs : attempting s.phase = false) (more : s.work.attempt ≠ retries.setWidth 9 + 1) (hu : Stops true s u)
  | attempts (hs : attempting s.phase = true) (hu : Stops true s u)
  | counts (hs : endsTransmission s.phase) (attempt : u.work.attempt = s.work.attempt + 1) (hu : u.phase = .ackWait)

theorem retryUnit_ackWaitSegment (target retries : Byte) (s : State) (hp : s.phase = .ackWait) :
    RetryUnit retries s (ackWaitSegment target retries s) := by
  have outside : attempting s.phase = false := by rw [hp]; rfl
  rcases ackWaitSegment_cases target retries s with ⟨-, -, h⟩ | ⟨-, more, h⟩ | ⟨-, h⟩ <;> rw [h]
  · exact .waits outside {}
  · exact .retries outside more {}
  · refine .waits outside (stops_receiveDone s (fun t => ?_) (stops_toPhase .ackWait))
    cases ackMatches target t
    · exact stops_toPhase .ackWait t
    · exact {}

theorem retryUnit_of_exec {target retries : Byte} (hp : s.phase ≠ .start)
    (hx : exec (.sendWithRetry target retries) s = .next u) : RetryUnit retries s u := by
  rw [exec, execSendWithRetry] at hx
  split at hx
  · next start => exact absurd start hp
  · next retry =>
    obtain rfl := Host.Outcome.next.inj hx
    exact .attempts (by rw [retry]; rfl) (stops_sendHead s)
  · next wait =>
    obtain rfl := Host.Outcome.next.inj hx
    exact retryUnit_ackWaitSegment target retries s wait
  · next m wake =>
    obtain rfl := Host.Outcome.next.inj hx
    have outside : attempting s.phase = false := by rw [wake]; rfl
    exact .waits outside (stops_wakePoll s outside (stops_toPhase .ackWait))
  · next notStart _ notWait notWake =>
    have inside : attempting s.phase = true := by
      rw [← Bool.not_eq_false, attempting_eq_false]
      rintro (start | wait | ⟨m, wake⟩)
      · exact notStart start
      · exact notWait wait
      · exact notWake m wake
    rcases bodyUnit_sendBody _ s u hx with stops | ⟨ends, v, saved, rfl⟩
    · exact .attempts inside stops
    · refine .counts ends ?_ rfl
      have kept : v.work.attempt = s.work.attempt := congrArg (fun w => w.1) saved
      rw [← kept]
      rfl

/-- Its first unit raises a fault and stays, or clears ATTEMPT and begins the first attempt (R235, R302). -/
theorem sendWithRetry_start {target retries : Byte} (hp : s.phase = .start)
    (hx : exec (.sendWithRetry target retries) s = .next u) :
    u.phase = .start ∨ (attempting u.phase = true ∧ u.work.attempt = 0) := by
  rw [exec, execSendWithRetry, hp] at hx
  rcases started_cases (.sendWithRetry target retries) s fun s =>
    .next (sendHead { s with work := { s.work with attempt := 0 } }) with ⟨c, -, h⟩ | ⟨-, h⟩ <;>
    obtain rfl := Host.Outcome.next.inj (h.symm.trans hx)
  · exact .inl hp
  · exact .inr ⟨rfl, rfl⟩

/-! ### The bound (R235, R236) -/

/-- The end of the last attempt, B + 1 as a number of 9 bits. -/
theorem lastAttempt_toNat (retries : Byte) : (retries.setWidth 9 + 1 : BitVec 9).toNat = retries.toNat + 1 := by
  have := retries.isLt
  simp [BitVec.toNat_add, BitVec.toNat_setWidth]
  omega

/-- The bound on ATTEMPT for B: at most B inside an attempt, 1 to B + 1 in the ACK wait. -/
structure AttemptBounded (retries : Byte) (s : State) : Prop where
  attempt : attempting s.phase = true → s.work.attempt.toNat ≤ retries.toNat
  wait : attempting s.phase = false → s.phase ≠ .start →
    1 ≤ s.work.attempt.toNat ∧ s.work.attempt.toNat ≤ retries.toNat + 1

theorem attemptBounded_iff {r : Byte} : AttemptBounded r s ↔
    (attempting s.phase = true → s.work.attempt.toNat ≤ r.toNat) ∧
    (attempting s.phase = false → s.phase ≠ .start →
      1 ≤ s.work.attempt.toNat ∧ s.work.attempt.toNat ≤ r.toNat + 1) :=
  ⟨fun ⟨attempt, wait⟩ => ⟨attempt, wait⟩, fun ⟨attempt, wait⟩ => ⟨attempt, wait⟩⟩

/-- The invariant, position by position. -/
theorem retryBounded_iff : RetryBounded s ↔
    ∀ t r, decodeCommand s.curCmd = .ok (.sendWithRetry t r) → AttemptBounded r s := by
  unfold RetryBounded
  cases hp : s.phase with
  | wake m r => cases r <;> simp [attemptBounded_iff, hp, attempting]
  | _ => simp [attemptBounded_iff, hp, attempting]

theorem RetryUnit.attemptBounded {retries : Byte} (h : RetryUnit retries s u) (hp : s.phase ≠ .start)
    (hs : AttemptBounded retries s) : AttemptBounded retries u := by
  have same : ∀ {b}, Stops b s u → u.work.attempt = s.work.attempt := fun hu => congrArg (fun w => w.1) hu.saved
  cases h with
  | waits outside hu =>
    refine ⟨fun inside => absurd (inside.symm.trans hu.phase) (by decide), fun _ _ => ?_⟩
    rw [same hu]
    exact hs.wait outside hp
  | retries outside more hu =>
    refine ⟨fun _ => ?_, fun out => absurd (out.symm.trans hu.phase) (by decide)⟩
    obtain ⟨-, atMost⟩ := hs.wait outside hp
    have notLast : s.work.attempt.toNat ≠ retries.toNat + 1 :=
      fun last => more (BitVec.eq_of_toNat_eq (last.trans (lastAttempt_toNat retries).symm))
    rw [same hu]
    omega
  | attempts inside hu =>
    refine ⟨fun _ => ?_, fun out => absurd (out.symm.trans hu.phase) (by decide)⟩
    rw [same hu]
    exact hs.attempt inside
  | counts ends attempt hu =>
    refine ⟨fun inside => ?_, fun _ _ => ?_⟩
    · rw [hu] at inside
      exact absurd inside (by decide)
    · have before := hs.attempt ends.attempting
      have := retries.isLt
      rw [attempt, BitVec.toNat_add]
      simp
      omega

/-- A unit of the running command keeps the bound. -/
theorem retryBounded_of_exec {i : Instr} (hs : RetryBounded s) (hd : decodeCommand s.curCmd = .ok i)
    (hx : exec i s = .next u) : RetryBounded u := by
  have word : u.curCmd = s.curCmd := congrArg (fun r => r.1) (commandRegisters_of_exec hx)
  refine retryBounded_iff.2 fun t r hu => ?_
  rw [word] at hu
  obtain rfl : i = .sendWithRetry t r := Except.ok.inj (hd.symm.trans hu)
  by_cases hp : s.phase = .start
  · rcases sendWithRetry_start hp hx with start | ⟨inside, zero⟩
    · exact ⟨fun h => by simp [start, attempting] at h, fun _ h => absurd start h⟩
    · refine ⟨fun _ => by simp [zero], fun outside => absurd (outside.symm.trans inside) (by decide)⟩
  · exact (retryUnit_of_exec hp hx).attemptBounded hp (retryBounded_iff.1 hs t r hd)


/-- A capture writes no working register (R175). -/
theorem work_of_capture (hx : execCapture s = .next u) : u.work = s.work := by
  have frame : ∀ t, (captureFrame t).work = t.work := by
    intro t
    rcases captureFrame_cases t with ⟨-, h⟩ | ⟨-, h⟩ <;> rw [h]
    · simp [captureAccept_eq]
    · simp [captureReject_eq]
  rcases captured_cases hx with rfl | ⟨-, rfl⟩
  · rfl
  · rw [captureEnd_eq]
    exact frame _

/-- The bound reads the running word, the position and ATTEMPT alone. -/
theorem RetryBounded.congr (h : RetryBounded s) (hw : t.curCmd = s.curCmd) (hp : t.phase = s.phase)
    (ha : t.work = s.work) : RetryBounded t := by
  unfold RetryBounded at *
  rwa [hw, hp, ha]

theorem retryBounded_of_capture (hs : RetryBounded s) (hx : execCapture s = .next u) : RetryBounded u := by
  have hr := captureRegisters_of_capture hx
  simp only [captureRegisters, unitRegisters, Prod.mk.injEq] at hr
  obtain ⟨⟨-, -, word, -⟩, -, phase⟩ := hr
  exact hs.congr word phase (work_of_capture hx)

/-- At the start position nothing is asked of ATTEMPT. -/
theorem retryBounded_of_start (hp : s.phase = .start) : RetryBounded s :=
  fun _ _ _ => by rw [hp]; trivial

theorem retryBounded_step (hs : RetryBounded s) : Ensures (step s) RetryBounded := by
  refine ensures_step ?_ hs (fun _ _ => retryBounded_of_capture) (fun _ _ _ hs _ => retryBounded_of_exec hs)
    (fun _ _ hs _ => hs) ?_ (fun _ _ => retryBounded_of_start rfl)
  · intro s t he hs
    rw [he]
    exact hs
  · intro s r v hs _
    cases r with
    | cmd => exact retryBounded_of_start rfl
    | _ => exact hs

/-! ### The units of SEND_ACK (R232) -/

/-- Past its first unit SEND_ACK runs SEND's body to the saved sender. -/
theorem exec_sendAck_body (hp : s.phase ≠ .start) :
    exec .sendAck s = sendBody ⟨s.work.savedSender, false, true, fun s => finish (restoreSlot s)⟩ s := by
  rw [exec, execSendAck]
  split
  · next start => exact absurd start hp
  · rfl

theorem savedWork_of_sendAck (hp : s.phase ≠ .start) (hx : exec .sendAck s = .next u) : savedWork u = savedWork s := by
  rw [exec_sendAck_body hp] at hx
  rcases bodyUnit_sendBody _ s u hx with stops | ⟨-, v, saved, rfl⟩
  · exact stops.saved
  · exact saved

/-! ### A step while a command runs -/

/-- While a command runs, a step but a reset leaves the position and the working registers alone, or it is a unit of the
command and leaves both as the unit does. -/
theorem running_step_cases (hb : s.busy = true) (hn : NoReset s) (h : step s = .next t) :
    (t.phase = s.phase ∧ t.work = s.work) ∨
    ∃ i u, decodeCommand s.curCmd = .ok i ∧ exec i (afterMove s) = .next u ∧ t.phase = u.phase ∧ t.work = u.work := by
  obtain ⟨u, move, same⟩ := engineMove_of_step h
  have phase : t.phase = u.phase := by rw [same]
  have work : t.work = u.work := by rw [same]
  rw [phase, work]
  cases move with
  | idle h => exact .inl (by rw [h]; exact ⟨rfl, rfl⟩)
  | capture h =>
    have kept := captureRegisters_of_capture h
    simp only [captureRegisters, Prod.mk.injEq] at kept
    obtain ⟨-, -, position⟩ := kept
    exact .inl ⟨position, (work_of_capture h).trans rfl⟩
  | command i _ hd h => exact .inr ⟨i, u, hd, h, rfl, rfl⟩
  | raise c _ h => exact .inl (by rw [h]; exact ⟨rfl, rfl⟩)
  | write r v idle _ => exact absurd (hb.symm.trans idle) (by decide)
  | reset hr _ => exact absurd hn hr

/-- The step ends TransmitFrame: its last wait is over, and the ACK wait begins (R230, R235). -/
def attemptEnds (s t : State) : Prop := endsTransmission s.phase ∧ t.phase = .ackWait

theorem RetryUnit.attempt {retries : Byte} (h : RetryUnit retries s u) :
    (attemptEnds s u → u.work.attempt = s.work.attempt + 1) ∧ (¬attemptEnds s u → u.work.attempt = s.work.attempt) := by
  have same : ∀ {b}, Stops b s u → u.work.attempt = s.work.attempt := fun hu => congrArg (fun w => w.1) hu.saved
  have notInside : Stops true s u → ¬attemptEnds s u := by
    rintro ⟨-, inside⟩ ⟨-, wait⟩
    simp [wait, attempting] at inside
  cases h with
  | waits outside hu =>
    refine ⟨fun ⟨ends, _⟩ => ?_, fun _ => same hu⟩
    exact absurd (outside.symm.trans ends.attempting) (by decide)
  | retries _ _ hu => exact ⟨fun ends => absurd ends (notInside hu), fun _ => same hu⟩
  | attempts _ hu => exact ⟨fun ends => absurd ends (notInside hu), fun _ => same hu⟩
  | counts ends counted hu => exact ⟨fun _ => counted, fun hn => absurd ⟨ends, hu⟩ hn⟩

end

/-- Settles O55: only the end of TransmitFrame counts, the ACK wait begins another attempt only below B + 1, and no other
move writes the position or ATTEMPT. -/
theorem retriesStayBounded : Obligations.RetriesStayBounded := by
  refine fun s => ⟨retryBounded_step, fun a r hd hb hp hn t ht => ?_⟩
  change (attemptEnds s t → _) ∧ (¬attemptEnds s t → _)
  rcases running_step_cases hb hn ht with ⟨phase, work⟩ | ⟨i, u, hi, hx, phase, work⟩
  · refine ⟨fun ⟨ends, wait⟩ => ?_, fun _ => by rw [work]⟩
    rw [← phase, wait] at ends
    exact absurd ends.attempting (by decide)
  · obtain rfl : i = .sendWithRetry a r := Except.ok.inj (hi.symm.trans hd)
    rw [attemptEnds, phase, work]
    exact (retryUnit_of_exec (s := afterMove s) hp hx).attempt

/-- Settles O43: SEND's body and what follows it in SEND_ACK leave both saved fields alone, and no other move writes
them. -/
theorem sendAckKeepsSavedFields : Obligations.SendAckKeepsSavedFields := by
  intro s t hn hd hp hb ht
  rcases running_step_cases hb hn ht with ⟨-, work⟩ | ⟨i, u, hi, hx, -, work⟩
  · rw [work]
    exact ⟨rfl, rfl⟩
  · obtain rfl : i = .sendAck := Except.ok.inj (hi.symm.trans hd)
    have kept : savedWork u = savedWork (afterMove s) := savedWork_of_sendAck hp hx
    simp only [savedWork, Prod.mk.injEq] at kept
    obtain ⟨-, saved⟩ := kept
    rw [work]
    exact saved

end Sys2Proof.Machine
end

section
/-! SUPPORT. The units of the transmit commands: the head of each attempt, TransmitFrame's middle unit and its end
(R230 to R232, R235). -/

namespace Sys2Proof.Machine

section
variable {i : Instr} {s : State}

/-! ### The head of an attempt (R231) -/

/-- After INIT and with its payload in host memory, a transmit command passes every check; SEND_ACK reads the slot too
(R302). -/
theorem started_transmit (hi : transmits i) (segment : State → Result) (hd : s.initDone = true)
    (hslot : readsSlot i = true → s.mode ≠ .rx) (hr : s.argPtr.toNat + min s.argLen.toNat 61 ≤ 65536) :
    started i s segment = segment s := by
  have inRange : payloadAddr s + payloadCount s ≤ Config.hostMemSize := hr
  refine started_of_checks segment ?_
  rcases hi with ⟨a, rq, rfl⟩ | rfl | ⟨a, b, rfl⟩ <;>
    exact decodeFault_eq_none.2 ⟨by simp [isInit, hd], rfl, rfl, hslot, decide_eq_true inRange⟩

end

/-- Settles O38: past the checks, the saved fields or ATTEMPT are written and SEND's head runs; between two attempts
SEND's head runs alone. -/
theorem transmitCommandsStart : Obligations.TransmitCommandsStart := by
  refine fun s => ⟨fun hd hp hr => ⟨fun t rq => ?_, fun hm => ?_, fun t r => ?_⟩, fun hp t r => ?_⟩
  · rw [exec, execSend, hp]
    exact started_transmit (.inl ⟨t, rq, rfl⟩) _ hd (by simp [readsSlot]) hr
  · rw [exec, execSendAck, hp]
    refine (started_transmit (.inr (.inl rfl)) _ hd (fun _ => hm) hr).trans ?_
    rw [sendHead_eq, saveSlot]
  · rw [exec, execSendWithRetry, hp]
    refine (started_transmit (.inr (.inr ⟨t, r, rfl⟩)) _ hd (by simp [readsSlot]) hr).trans ?_
    rw [sendHead_eq]
  · rw [exec, execSendWithRetry, hp]
    rfl

section
variable {i : Instr} {s : State}

/-! ### SEND's body in each command (R231, R232, R235) -/

theorem exec_send_body (target : Byte) (reqAck : Bool) (hp : s.phase ≠ .start) :
    exec (.send target reqAck) s = sendBody ⟨target, reqAck, false, finish⟩ s := by
  rw [exec, execSend]
  split
  · next start => exact absurd start hp
  · rfl

/-- Inside an attempt SEND_WITH_RETRY runs SEND's body, but for the window between two attempts. -/
theorem exec_sendWithRetry_body (target retries : Byte) (hp : attempting s.phase = true) (hr : s.phase ≠ .retry) :
    exec (.sendWithRetry target retries) s = sendBody ⟨target, true, false, attemptDone⟩ s := by
  rw [exec, execSendWithRetry]
  split
  · next start => simp [start, attempting] at hp
  · next retry => exact absurd retry hr
  · next wait => simp [wait, attempting] at hp
  · next m wake => simp [wake, attempting] at hp
  · rfl

/-! ### TransmitFrame's mode-ready wait and its middle unit (R230) -/

/-- A poll that finds the chip not ready before the bound stays in the wait (R132). -/
theorem transmitReady_stays (x : Transmission) (hready : modeReadyAnswer s = false) (hbound : ¬ReadyBoundReached s) :
    transmitReady x s = .next { s with
      ie := !s.inIsr
      answers := { s.answers with modeReady := s.answers.modeReady.tail }, draws := s.draws + 1
      busTrace := .readModeReady false :: s.busTrace } := by
  rcases transmitReady_cases x s with ⟨ends, -⟩ | ⟨-, stays⟩
  · simp [hready, hbound] at ends
  · rw [stays, chipReadModeReady_eq, hready]

/-- WriteFrame's one transaction: the frame is pushed and loaded, and L_ACC is the payload's length (R64, R151). -/
def frameLoaded (frame : List Byte) (s : State) : State :=
  { s with
    ie := !s.inIsr
    work := { s.work with lAcc := BitVec.ofNat 8 (payloadCount s) }
    chip := { s.chip with txFifo := s.chip.txFifo ++ frame, txFrame := frame, txLoaded := true }
    busTrace := .fifoWrite frame :: s.busTrace }

/-- Where the payload is in host memory, WriteFrame loads its frame (R151). -/
theorem writeFrameThen_of_payload (target : Byte) (rq ar : Bool) (k : State → State) {payload : List Byte}
    (h : payloadBytes s = some payload) :
    writeFrameThen target rq ar k s =
      .next (k (frameLoaded (frameBytes target s.ownAddr (buildCtl rq ar) payload) s)) := by
  rw [writeFrameThen, h]
  rfl

/-- The end of the mode-ready wait: the chip is polled, and DIO0 is mapped to packet sent (R230). -/
def sendMapped (s : State) : State := chipSetDio0Map true (chipReadModeReady s)

theorem sendMapped_eq (s : State) :
    sendMapped s = { s with
      ie := !s.inIsr
      dio0Map := true
      answers := { s.answers with modeReady := s.answers.modeReady.tail }
      draws := s.draws + 1
      busTrace := .setDio0Map true :: .readModeReady (modeReadyAnswer s) :: s.busTrace } := by
  simp only [sendMapped, chipSetDio0Map_eq, chipReadModeReady_eq]

@[simp] theorem sendMapped_mode (s : State) : (sendMapped s).mode = s.mode := by rw [sendMapped_eq]

@[simp] theorem sendMapped_ownAddr (s : State) : (sendMapped s).ownAddr = s.ownAddr := by rw [sendMapped_eq]

/-- Neither transaction reaches host memory or the argument registers. -/
@[simp] theorem payloadBytes_sendMapped (s : State) : payloadBytes (sendMapped s) = payloadBytes s := by
  simp only [payloadBytes, payloadAddr, payloadCount, sendMapped_eq]

@[simp] theorem frameLoaded_mode (frame : List Byte) (s : State) : (frameLoaded frame s).mode = s.mode := rfl

/-- The poll that ends the wait awake loads the frame, enters TX and starts the packet-sent wait (R230). -/
theorem transmitReady_sends (x : Transmission) {payload : List Byte}
    (h : modeReadyAnswer s = true ∨ ReadyBoundReached s) (hread : payloadBytes s = some payload) (awake : s.mode ≠ .sleep) :
    transmitReady x s = .next (sentWait (setModeNow .tx
      (frameLoaded (frameBytes x.target s.ownAddr (buildCtl x.reqAck x.ackReply) payload) (sendMapped s)))) := by
  have mapped : payloadBytes (sendMapped s) = some payload := by rw [payloadBytes_sendMapped, hread]
  rw [transmitReady_ends x h, ← sendMapped, writeFrameThen_of_payload _ _ _ _ mapped, sendMapped_ownAddr,
    setModeThen_awake _ _ (.inl (by simpa using awake))]

/-- The transmission of each command: its target, and its control byte (R150, R231, R232, R235). -/
theorem exec_txReady {target ctl : Byte}
    (hi : (∃ rq, i = .send target rq ∧ ctl = if rq = true then 0x40 else 0x00) ∨
      (i = .sendAck ∧ target = s.work.savedSender ∧ ctl = 0x80) ∨ (∃ r, i = .sendWithRetry target r ∧ ctl = 0x40))
    (hp : s.phase = .txReady) :
    ∃ x : Transmission, x.target = target ∧ buildCtl x.reqAck x.ackReply = ctl ∧ exec i s = transmitReady x s := by
  have past : s.phase ≠ .start := by simp [hp]
  have unit : ∀ x, sendBody x s = transmitReady x s := fun x => by rw [sendBody, hp]
  rcases hi with ⟨rq, rfl, rfl⟩ | ⟨rfl, rfl, rfl⟩ | ⟨r, rfl, rfl⟩
  · exact ⟨_, rfl, rfl, (exec_send_body target rq past).trans (unit _)⟩
  · exact ⟨_, rfl, rfl, (exec_sendAck_body past).trans (unit _)⟩
  · exact ⟨_, rfl, rfl, (exec_sendWithRetry_body target r (by rw [hp]; rfl) (by simp [hp])).trans (unit _)⟩

end

/-- Settles O39: the poll stays, or TransmitFrame writes the frame of the command's transmission and enters TX. -/
theorem transmitUnit : Obligations.TransmitUnit := by
  intro s i target ctl hi hp
  obtain ⟨x, rfl, rfl, unit⟩ := exec_txReady hi hp
  rw [unit]
  refine ⟨transmitReady_stays x, fun payload hm hend hr hlen hbytes => ?_⟩
  have read : payloadBytes s = some payload :=
    payloadBytes_eq_some.2 ⟨hr, hlen, fun k hk => hbytes k (hlen ▸ hk)⟩
  have count : payload.length = payloadCount s := hlen
  refine ⟨_, transmitReady_sends x hend read (by simp [hm]), ?_⟩
  simp [sentWait, frameLoaded, sendMapped_eq, frameBytes, setModeNow_chipMode, setModeNow_hpOn, hpAfter, hm, count,
    payloadCount]

section
variable {i : Instr} {s : State}

/-! ### The end of TransmitFrame (R230) -/

/-- A poll before the bound with no packet sent stays in the wait. -/
theorem transmitSent_stays (x : Transmission) (hsent : s.chip.packetSent = false)
    (hbound : ¬s.params.txTimeout ≤ s.clock - s.work.tTx) :
    transmitSent x s = { s with ie := !s.inIsr, busTrace := .readPacketSent false :: s.busTrace } := by
  rcases transmitSent_cases x s with ⟨ends, -⟩ | ⟨-, stays⟩
  · simp [hsent, hbound] at ends
  · rw [stays, chipReadPacketSent_eq, hsent]

/-- The radio back in Standby after a transmission (R230). -/
def transmitted (s : State) : State := setModeNow .standby (chipReadPacketSent s)

/-- The poll that ends the wait in TX returns to Standby, and the command goes on. -/
theorem transmitSent_ends (x : Transmission)
    (h : s.chip.packetSent = true ∨ s.params.txTimeout ≤ s.clock - s.work.tTx) (hm : s.mode = .tx) :
    transmitSent x s = x.after (transmitted s) := by
  have awake : (chipReadPacketSent s).mode ≠ .sleep := by simp [chipReadPacketSent_eq, hm]
  rcases transmitSent_cases x s with ⟨-, ends⟩ | ⟨⟨notSent, notReached⟩, -⟩
  · rw [ends, setModeThen_awake _ _ (.inl awake), transmitted]
  · simp [notSent, notReached] at h

/-- Returning from TX to Standby switches the mode alone: the amplifiers and the engine's other registers stay (R130,
R131). -/
theorem transmitted_eq (hm : s.mode = .tx) :
    transmitted s = { s with
      mode := .standby, chipMode := .standby, ie := !s.inIsr
      chip := (transmitted s).chip, busTrace := (transmitted s).busTrace } := by
  have leaves : (chipReadPacketSent s).mode ≠ .standby := by simp [chipReadPacketSent_eq, hm]
  rw [transmitted, setModeNow_other leaves, setModeBus_eq, chipReadPacketSent_eq]
  simp [hpAfter]

end

/-- Settles O40: the poll that ends the wait returns to Standby, and each command goes on in its own way; the other polls
only read. -/
theorem transmitEnds : Obligations.TransmitEnds := by
  intro s hp hm
  have past : s.phase ≠ .start := by simp [hp]
  have unit : ∀ x, sendBody x s = .next (transmitSent x s) := fun x => by rw [sendBody, hp]
  refine ⟨fun hend => ⟨fun a rq => ?_, ?_, fun a r => ?_⟩, fun hsent hbound i hi => ?_⟩
  · refine ⟨finish (transmitted s), ?_, ?_⟩
    · rw [exec_send_body a rq past, unit, transmitSent_ends _ hend hm]
    · rw [transmitted_eq hm]
      exact ⟨rfl, rfl, rfl, rfl, rfl, rfl, rfl, rfl⟩
  · refine ⟨finish (restoreSlot (transmitted s)), ?_, ?_⟩
    · rw [exec_sendAck_body past, unit, transmitSent_ends _ hend hm]
    · rw [transmitted_eq hm]
      exact ⟨rfl, rfl, rfl, rfl, rfl⟩
  · refine ⟨attemptDone (transmitted s), ?_, ?_⟩
    · rw [exec_sendWithRetry_body a r (by rw [hp]; rfl) (by simp [hp]), unit, transmitSent_ends _ hend hm]
    · rw [transmitted_eq hm]
      exact ⟨rfl, rfl, rfl, rfl, rfl⟩
  · exact exec_eq_of_sendBody hi (by rw [hp]; rfl) fun x => by rw [unit, transmitSent_stays x hsent hbound]

end Sys2Proof.Machine
end

section
/-! SUPPORT. AckReceived and what waits for an ACK: ACK_RECEIVED, the ACK wait of SEND_WITH_RETRY, and an ACK from the
node that writes it to the node that waits for it (R233 to R237). -/

namespace Sys2Proof.Machine

section
variable {s : State}

/-! ### AckReceived awake (R233) -/

/-- A held frame is consumed, and the result is whether it matches. -/
theorem ackReceivedThen_filled (src : Byte) (r : Resume) (k : Bool → State → State) (rx : s.mode = .rx)
    (filled : s.slot.frameLen ≠ 0) :
    ackReceivedThen src r k s = k (ackMatches src s) (setModeNow .standby s) := by
  have same : ackMatches src (setModeNow .standby s) = ackMatches src s := by simp [ackMatches]
  rw [ackReceivedThen, receiveDone_filled _ _ _ rx filled, same]

theorem ackReceivedThen_armed (src : Byte) (r : Resume) (k : Bool → State → State) (rx : s.mode = .rx)
    (empty : s.slot.frameLen = 0) : ackReceivedThen src r k s = k false { s with ie := true } :=
  receiveDone_armed _ _ _ rx empty

theorem ackReceivedThen_elsewhere (src : Byte) (r : Resume) (k : Bool → State → State) (rx : s.mode ≠ .rx)
    (awake : s.mode ≠ .sleep) : ackReceivedThen src r k s = k false (receiveBegun s) :=
  receiveDone_elsewhere _ _ _ rx awake

/-! ### ACK_RECEIVED (R234) -/

/-- After INIT, ACK_RECEIVED is AckReceived and its result. -/
theorem exec_ackReceived_start (src : Byte) (hd : s.initDone = true) (hp : s.phase = .start) :
    exec (.ackReceived src) s =
      .next (ackReceivedThen src .finish (fun r => finishWith (boolWord r)) s) := by
  rw [exec, execAckReceived, hp]
  exact started_of_initDone (.ackReceived src) _ hd

/-- Of a held frame it answers whether it matches. -/
theorem exec_ackReceived_filled (src : Byte) (hd : s.initDone = true) (hp : s.phase = .start) (rx : s.mode = .rx)
    (filled : s.slot.frameLen ≠ 0) :
    exec (.ackReceived src) s = .next (finishWith
      (if (s.slot.sender = src ∨ src = 255) ∧ s.slot.ackRcvd = true then 1 else 0) (setModeNow .standby s)) := by
  rw [exec_ackReceived_start src hd hp, ackReceivedThen_filled _ _ _ rx filled, boolWord_eq]
  simp only [ackMatches_iff]

end

/-- Settles O42: the three branches of ReceiveDone, and the match of a held frame. -/
theorem ackReceivedResult : Obligations.AckReceivedResult := by
  refine fun s f hd hp => ⟨fun rx filled => ?_, fun rx empty => ?_, fun rx awake => ?_⟩
  · refine ⟨_, exec_ackReceived_filled f hd hp rx filled, pipeline_consumed ?_ ?_, ?_⟩
    · simp
    · simpa using filled
    · simp
  · rw [exec_ackReceived_start f hd hp, ackReceivedThen_armed _ _ _ rx empty]
    rfl
  · refine ⟨finishWith 0 (receiveBegun s), ?_, rfl, pipeline_armed ?_ ?_, rfl, ?_⟩
    · rw [exec_ackReceived_start f hd hp, ackReceivedThen_elsewhere _ _ _ rx awake]
      rfl
    · simp
    · simp [resetSlot]
    · simp [State.reset]

/-! ### The ACK wait (R235) -/

section
variable {s : State} {a r : Byte}

theorem exec_ackWait (a r : Byte) (hp : s.phase = .ackWait) :
    exec (.sendWithRetry a r) s = .next (ackWaitSegment a r s) := by
  rw [exec, execSendWithRetry, hp]

/-- The count of attempts as a number: no wrap at B + 1 (R235). -/
theorem attempt_eq_last_iff : s.work.attempt = r.setWidth 9 + 1 ↔ s.work.attempt.toNat = r.toNat + 1 := by
  rw [← lastAttempt_toNat, BitVec.toNat_inj]

/-- Before the deadline a poll is AckReceived. -/
theorem ackWaitSegment_before (h : ¬s.argTmo ≤ s.clock - s.work.tAck) :
    ackWaitSegment a r s =
      ackReceivedThen a .ackPoll (fun b => if b then finishWith (boolWord true) else toPhase .ackWait) s := by
  rcases ackWaitSegment_cases a r s with ⟨reached, -⟩ | ⟨reached, -⟩ | ⟨-, polls⟩
  · exact absurd reached h
  · exact absurd reached h
  · exact polls

/-- At the deadline the attempts decide. -/
theorem ackWaitSegment_deadline (h : s.argTmo ≤ s.clock - s.work.tAck) :
    ackWaitSegment a r s =
      if s.work.attempt.toNat = r.toNat + 1 then finishWith 0 s else toPhase .retry s := by
  rcases ackWaitSegment_cases a r s with ⟨-, last, ends⟩ | ⟨-, more, goesOn⟩ | ⟨notReached, -⟩
  · rw [ends, if_pos (attempt_eq_last_iff.1 last)]
    rfl
  · rw [goesOn, if_neg (mt attempt_eq_last_iff.2 more)]
  · exact absurd h notReached

/-- The unit before the deadline, by the pipeline's state. -/
theorem ackWaitSegment_filled (h : ¬s.argTmo ≤ s.clock - s.work.tAck) (rx : s.mode = .rx)
    (filled : s.slot.frameLen ≠ 0) :
    ackWaitSegment a r s =
      if (s.slot.sender = a ∨ a = 255) ∧ s.slot.ackRcvd = true then finishWith 1 (setModeNow .standby s)
      else toPhase .ackWait (setModeNow .standby s) := by
  rw [ackWaitSegment_before h, ackReceivedThen_filled _ _ _ rx filled]
  simp only [ackMatches_iff]
  split <;> rfl

theorem ackWaitSegment_armed (h : ¬s.argTmo ≤ s.clock - s.work.tAck) (rx : s.mode = .rx)
    (empty : s.slot.frameLen = 0) : ackWaitSegment a r s = toPhase .ackWait { s with ie := true } := by
  rw [ackWaitSegment_before h, ackReceivedThen_armed _ _ _ rx empty]
  rfl

theorem ackWaitSegment_elsewhere (h : ¬s.argTmo ≤ s.clock - s.work.tAck) (rx : s.mode ≠ .rx)
    (awake : s.mode ≠ .sleep) : ackWaitSegment a r s = toPhase .ackWait (receiveBegun s) := by
  rw [ackWaitSegment_before h, ackReceivedThen_elsewhere _ _ _ rx awake]
  rfl

end

/-- Settles O41: the deadline first, then AckReceived by the pipeline's state and the match. -/
theorem ackWaitUnits : Obligations.AckWaitUnits := by
  intro s a r hp
  rw [exec_ackWait a r hp]
  refine ⟨fun reached last => ?_, fun reached more => ?_, fun before rx filled => ⟨fun matching => ?_, fun other => ?_⟩,
    fun before rx empty => ?_, fun before rx awake => ?_⟩
  · rw [ackWaitSegment_deadline reached, if_pos last]
    rfl
  · rw [ackWaitSegment_deadline reached, if_neg more]
    rfl
  · rw [ackWaitSegment_filled before rx filled, if_pos matching]
    exact ⟨_, rfl, rfl, rfl, pipeline_consumed (by simp) (by simpa using filled), by simp⟩
  · rw [ackWaitSegment_filled before rx filled, if_neg other]
    exact ⟨_, rfl, by simp, by simp, rfl, pipeline_consumed (by simp) (by simpa using filled), by simp⟩
  · rw [ackWaitSegment_armed before rx empty, toPhase, ← hp]
  · rw [ackWaitSegment_elsewhere before rx awake]
    refine ⟨_, rfl, ?_, by simp, rfl, by simp, pipeline_armed (by simp) (by simp [resetSlot]), ?_, by simp, by simp,
      by simp [State.reset]⟩
    · rw [receiveBegun_frame]
      rfl
    · rw [toPhase_chipMode, receiveBegun_chipMode, if_neg rx]

/-! ### An ACK between two nodes (R237) -/

section
variable {s t : State}

/-- The frame that SEND_ACK's transmit unit writes goes to the saved sender, and its control byte is SEND_ACK (R232). -/
theorem txFrame_of_sendAck (hp : s.phase = .txReady) (awake : s.mode ≠ .sleep) (hready : modeReadyAnswer s = true)
    (hx : exec .sendAck s = .next t) :
    ∃ payload, payload.length ≤ 61 ∧
      t.chip.txFrame = frameBytes s.work.savedSender s.ownAddr (buildCtl false true) payload := by
  obtain ⟨x, target, ctl, unit⟩ := exec_txReady (s := s) (.inr (.inl ⟨rfl, rfl, rfl⟩)) hp
  rw [unit] at hx
  cases read : payloadBytes s with
  | none =>
    rw [transmitReady_ends x (.inl hready), ← sendMapped, writeFrameThen, payloadBytes_sendMapped, read] at hx
    exact nomatch hx
  | some payload =>
    obtain ⟨-, counted, -⟩ := payloadBytes_eq_some.1 read
    obtain rfl := Host.Outcome.next.inj ((transmitReady_sends x (.inl hready) read awake).symm.trans hx)
    refine ⟨payload, counted.trans_le (Nat.min_le_right _ _), ?_⟩
    rw [target, ctl]
    simp [sentWait, frameLoaded, buildCtl, ctlSendAck]

/-- The capture of a frame that WriteFrame built for an armed node leaves it Filled, with the frame's header in the
slot (R175, R178). -/
theorem held_of_delivery {sender : Byte} {rq ar : Bool} {payload : List Byte} {u : State} (hs : Armed s)
    (hlen : payload.length ≤ 61)
    (ht : frameArrives (frameBytes s.ownAddr sender (buildCtl rq ar) payload) s = .next t)
    (hu : exec .capture t = .next u) :
    u.mode = .rx ∧ u.slot.frameLen ≠ 0 ∧ u.slot.sender = sender ∧ u.slot.ackRcvd = ar := by
  have counted := frameLen_toNat hlen
  have slot := slot_of_delivery hs (by omega) (.inr (.inl rfl)) ht hu
  obtain rfl := received_of_armed hs ht
  have ended := captureEnded (s := receiving _ s) hs.mode rfl hu
  obtain ⟨flag, -⟩ := ctlFlags_buildCtl rq ar
  obtain ⟨clamp, -⟩ := rxLenClamp_bounds s
  rw [slot]
  refine ⟨ended.received.mode, fun zero => ?_, rfl, flag⟩
  have length : (clampLen s (BitVec.ofNat 8 (payload.length + 3))).toNat = 0 := congrArg BitVec.toNat zero
  rw [clampLen_toNat] at length
  omega

/-- A capture leaves INIT_DONE and the sequencer's position alone. -/
theorem position_of_capture (hx : exec .capture s = .next t) : t.initDone = s.initDone ∧ t.phase = s.phase := by
  have kept := captureRegisters_of_capture (s := s) hx
  simp only [captureRegisters, unitRegisters, Prod.mk.injEq] at kept
  obtain ⟨⟨-, -, -, -, -, -, -, -, initDone⟩, -, phase⟩ := kept
  exact ⟨initDone, phase⟩

end

/-- Settles O44: b's frame is an ACK to a from b, so after its capture a holds a frame that matches. -/
theorem ackFrameMatchesAtSender : Obligations.AckFrameMatchesAtSender := by
  intro a b b' a1 a2 a3 hp hm hready hsend haddr hd hstart harmed hc ho he harrive hcapture hquery
  obtain ⟨payload, hlen, hframe⟩ := txFrame_of_sendAck hp (by simp [hm]) hready hsend
  have rx : a.mode = .rx := by
    by_contra other
    simp only [pipeline, if_neg other] at harmed
    split at harmed <;> exact nomatch harmed
  have armed : Armed a := ⟨rx, hc, ho, he⟩
  rw [frameUnit_eq, if_pos rfl, hframe, ← haddr] at harrive
  obtain ⟨mode, filled, sender, ackRcvd⟩ := held_of_delivery armed hlen harrive hcapture
  obtain ⟨initDone, phase⟩ := position_of_capture hcapture
  obtain rfl := received_of_armed armed harrive
  have answer := exec_ackReceived_filled b.ownAddr (initDone.trans hd) (phase.trans hstart) mode filled
  obtain rfl := Host.Outcome.next.inj (answer.symm.trans hquery)
  simp [sender, ackRcvd]

end Sys2Proof.Machine
end

section
/-! SUPPORT. The configuration commands: INIT and its transactions, the commands of one register or one chip setting,
and the encryption key (R270 to R276). -/

namespace Sys2Proof.Machine

/-! ### INIT (R270) -/

/-- Before INIT, with a node's own address, INIT passes every check (R105, R302). -/
theorem decodeFault_init {addr net : Byte} {s : State} (hd : s.initDone = false) (ha : addr ≠ 255) :
    decodeFault (.init addr net) s = none := by
  have legal : addressOk (.init addr net) = true := bne_iff_ne.2 ha
  exact decodeFault_eq_none.2 ⟨by simp [isInit, hd], rfl, legal, by simp [readsSlot], rfl⟩

/-- INIT that passes its checks runs its only segment (R270). -/
theorem exec_init {addr net : Byte} {s : State} (hd : s.initDone = false) (ha : addr ≠ 255) :
    exec (.init addr net) s = .next (initEngine addr net s) := by
  rw [exec, execInit]
  exact started_of_checks _ (decodeFault_init hd ha)

/-- All that INIT does before its SetMode; the amplifiers are one more transaction on the high-power variant (R270). -/
theorem initBus_eq (addr net : Byte) (s : State) :
    initBus addr net s = { s with
      ownAddr := addr, netId := net, promisc := false, dio0Map := false
      hpOn := if s.params.hpVariant then false else s.hpOn
      ie := !s.inIsr
      chip := { s.chip with netId := net }
      busTrace := (if s.params.hpVariant then [.setHighPower false] else []) ++
        .setDio0Map false :: .setSyncNetwork net :: s.busTrace } := by
  simp only [initBus, chipSetDio0Map_eq, chipSetSyncNetwork_eq]
  rcases initHighPower_cases _ with ⟨variant, h⟩ | ⟨variant, h⟩ <;> rw [h] <;> dsimp only at variant
  · simp [chipSetHighPower_eq, variant]
  · simp [variant]

/-- In Standby INIT's SetMode does nothing (R136, R270). -/
theorem initEngine_of_standby (addr net : Byte) {s : State} (hm : s.mode = .standby) :
    initEngine addr net s = finish { clearSlot (initBus addr net s) with initDone := true } := by
  have standby : (initBus addr net s).mode = .standby := by rw [initBus_eq, hm]
  rw [initEngine_eq, setModeNow_same standby]

/-- Settles O14: the checks pass, and INIT is its transactions, the cleared slot and the end of the command. -/
theorem initResult : Obligations.InitResult := by
  intro addr net s hd ha hm
  rw [exec_init hd ha, initEngine_of_standby addr net hm, initBus_eq]
  rfl

/-! ### One register or one chip setting (R271 to R275) -/

section
variable {s : State}

theorem exec_setNetwork (net : Byte) (hd : s.initDone = true) :
    exec (.setNetwork net) s = .next (finish (chipSetSyncNetwork net { s with netId := net })) := by
  rw [exec, execSetNetwork]
  exact started_of_initDone (.setNetwork net) _ hd

theorem exec_setPromiscuous (on : Bool) (hd : s.initDone = true) :
    exec (.setPromiscuous on) s = .next (finish { s with promisc := on }) := by
  rw [exec, execSetPromiscuous]
  exact started_of_initDone (.setPromiscuous on) _ hd

/-- A level up to 31 is legal (R105). -/
theorem exec_setPowerLevel {level : Byte} (hd : s.initDone = true) (hl : level.toNat ≤ 31) :
    exec (.setPowerLevel level) s = .next (finish (chipSetPaLevel (Config.paMap level s.params.hpVariant) s)) := by
  rw [exec, execSetPowerLevel]
  exact started_of_initDone (.setPowerLevel level) _ hd (decide_eq_true hl)

theorem exec_setFrequency (hd : s.initDone = true) :
    exec .setFrequency s = .next (finish (chipSetFrequency s.argFreq s)) := by
  rw [exec, execSetFrequency]
  exact started_of_initDone .setFrequency _ hd

theorem exec_getFrequency (hd : s.initDone = true) :
    exec .getFrequency s = .next (finishWith (frequencyAnswer s) (chipReadFrequency s)) := by
  rw [exec, execGetFrequency]
  exact started_of_initDone .getFrequency _ hd

end

/-- Settles O15: each command passes its checks, writes its register or makes its one transaction, and finishes. -/
theorem configurationResults : Obligations.ConfigurationResults := by
  intro s hd
  refine ⟨fun net => ?_, fun on => ?_, fun level hl => ?_, ?_, fun hz answer => ?_⟩
  · rw [exec_setNetwork net hd, chipSetSyncNetwork_eq, finish]
  · rw [exec_setPromiscuous on hd, finish]
  · rw [exec_setPowerLevel hd hl, chipSetPaLevel_eq, finish]
  · rw [exec_setFrequency hd, chipSetFrequency_eq, finish]
  · rw [exec_getFrequency hd, chipReadFrequency_eq, answer, finishWith, finish]

/-! ### SET_ENCRYPTION_KEY (R276) -/

section
variable {s : State}

/-- A key in host memory passes the range check (R63) and goes to the chip in one transaction. -/
theorem exec_setEncryptionKey_of_key {k : List Byte} (hd : s.initDone = true) (hk : keyBytes s = some k) :
    exec (.setEncryptionKey true) s = .next (finish (chipSetAesKey k s)) := by
  obtain ⟨fits, -, -⟩ := keyBytes_eq_some.1 hk
  have inRange : hostRangeOk (.setEncryptionKey true) s = true := decide_eq_true fits
  rw [exec, execSetEncryptionKey, started_of_initDone (.setEncryptionKey true) _ hd (hrange := inRange), if_pos rfl, hk]

theorem exec_setEncryptionKey_off (hd : s.initDone = true) :
    exec (.setEncryptionKey false) s = .next (finish (chipSetAesOff s)) := by
  rw [exec, execSetEncryptionKey]
  exact started_of_initDone (.setEncryptionKey false) _ hd

end

/-- Settles O16: the 16 bytes at ARG_PTR are the key read, and each form is its one transaction and the end. -/
theorem setEncryptionKeyResult : Obligations.SetEncryptionKeyResult := by
  intro s hd
  refine ⟨fun k fits hlen hbytes => ?_, ?_⟩
  · have read : keyBytes s = some k := keyBytes_eq_some.2 ⟨fits, hlen, fun i hi => hbytes ⟨i, hi⟩⟩
    rw [exec_setEncryptionKey_of_key hd read, chipSetAesKey_eq, finish]
  · rw [exec_setEncryptionKey_off hd, chipSetAesOff_eq, finish]

end Sys2Proof.Machine
end

section
/-! SUPPORT. The decode checks one by one (R302): at phase 0 every command starts with them, and the first that fails is
the fault it takes. -/

namespace Sys2Proof.Machine

section
variable {i : Instr} {s : State} {c : FaultCode}

/-- Phase 0 takes the fault of the first failing check and does nothing else (R302, R303). -/
theorem started_of_decodeFault (segment : State → Result) (hf : decodeFault i s = some c) :
    started i s segment = faultTaken c s := by
  rw [started, hf]
  rfl

/-- Every command begins with its decode checks, so at phase 0 it takes the fault of the first that fails (R302). -/
theorem exec_of_decodeFault (hc : isCommand i = true) (hp : s.phase = .start) (hf : decodeFault i s = some c) :
    exec i s = faultTaken c s := by
  cases i with
  | init => rw [exec, execInit, started_of_decodeFault _ hf]
  | setNetwork => rw [exec, execSetNetwork, started_of_decodeFault _ hf]
  | setPromiscuous => rw [exec, execSetPromiscuous, started_of_decodeFault _ hf]
  | setPowerLevel => rw [exec, execSetPowerLevel, started_of_decodeFault _ hf]
  | setFrequency => rw [exec, execSetFrequency, started_of_decodeFault _ hf]
  | getFrequency => rw [exec, execGetFrequency, started_of_decodeFault _ hf]
  | setEncryptionKey => rw [exec, execSetEncryptionKey, started_of_decodeFault _ hf]
  | sleep => rw [exec, execSleep, started_of_decodeFault _ hf]
  | send target reqAck => rw [exec, execSend, hp, started_of_decodeFault _ hf]
  | sendWithRetry target retries => rw [exec, execSendWithRetry, hp, started_of_decodeFault _ hf]
  | sendAck => rw [exec, execSendAck, hp, started_of_decodeFault _ hf]
  | ackReceived src => rw [exec, execAckReceived, hp, started_of_decodeFault _ hf]
  | ackRequested => rw [exec, execAckRequested, slotCommand, started_of_decodeFault _ hf]
  | pollReceived => rw [exec, execPollReceived, hp, started_of_decodeFault _ hf]
  | setMode code =>
    rw [exec, execSetMode]
    cases modeOfCode code with
    | none => exact started_of_decodeFault _ hf
    | some m => simp only [setModeCommand, hp, started_of_decodeFault _ hf]
  | receiveBegin => rw [exec, execReceiveBegin, hp, started_of_decodeFault _ hf]
  | canSend => rw [exec, execCanSend, started_of_decodeFault _ hf]
  | awaitClearChannel => rw [exec, execAwaitClearChannel, hp, started_of_decodeFault _ hf]
  | writeFrame => rw [exec, execWriteFrame, started_of_decodeFault _ hf]
  | getSender => rw [exec, execGetSender, slotCommand, started_of_decodeFault _ hf]
  | getTarget => rw [exec, execGetTarget, slotCommand, started_of_decodeFault _ hf]
  | getLength => rw [exec, execGetLength, slotCommand, started_of_decodeFault _ hf]
  | getRssi => rw [exec, execGetRssi, slotCommand, started_of_decodeFault _ hf]
  | getPayloadByte => rw [exec, execGetPayloadByte, slotCommand, started_of_decodeFault _ hf]
  | getAckFlags => rw [exec, execGetAckFlags, slotCommand, started_of_decodeFault _ hf]
  | capture | frameData | frameDataReqack | frameAck | frameAckReqack => exact absurd hc Bool.false_ne_true

/-! ### The checks in their order (R302) -/

theorem decodeFault_reinit (hi : isInit i = true) (hd : s.initDone = true) : decodeFault i s = some .reinit := by
  simp [decodeFault, hi, hd]

theorem decodeFault_notInitialized (hi : isInit i = false) (hd : s.initDone = false) :
    decodeFault i s = some .notInitialized := by
  simp [decodeFault, hi, hd]

theorem decodeFault_illegalArg (hi : isInit i = !s.initDone) (ho : i.argLegal = false) :
    decodeFault i s = some .illegalArg := by
  simp [decodeFault, hi, operandOk, ho]

theorem decodeFault_reservedAddr (hi : isInit i = !s.initDone) (ho : i.argLegal = true) (ha : i.addrLegal = false) :
    decodeFault i s = some .reservedAddr := by
  simp [decodeFault, hi, operandOk, ho, addressOk, ha]

theorem decodeFault_slotRace (hi : isInit i = !s.initDone) (ho : i.argLegal = true) (ha : i.addrLegal = true)
    (hs : readsSlot i = true) (hm : s.mode = .rx) : decodeFault i s = some .slotRace := by
  simp [decodeFault, hi, operandOk, ho, addressOk, ha, hs, hm]

theorem decodeFault_hostAddr (hi : isInit i = !s.initDone) (ho : i.argLegal = true) (ha : i.addrLegal = true)
    (hs : readsSlot i = true → s.mode ≠ .rx) (hr : hostRangeOk i s = false) : decodeFault i s = some .hostAddr := by
  have reader : ¬(readsSlot i = true ∧ s.mode = .rx) := fun ⟨h, hm⟩ => hs h hm
  simp [decodeFault, hi, operandOk, ho, addressOk, ha, reader, hr]

/-! ### The fault of each command after INIT (R105, R180, R63) -/

/-- An illegal operand after INIT, in RX too (R105). -/
theorem exec_of_illegalArg (hd : s.initDone = true) (hp : s.phase = .start) (ho : i.argLegal = false)
    (hc : isCommand i = true := by rfl) (hi : isInit i = false := by rfl) : exec i s = faultTaken .illegalArg s :=
  exec_of_decodeFault hc hp (decodeFault_illegalArg (by simp [hi, hd]) ho)

/-- A slot reader in RX, its operand legal (R180). -/
theorem exec_of_slotRace (hd : s.initDone = true) (hp : s.phase = .start) (hm : s.mode = .rx)
    (ho : i.argLegal = true := by rfl) (hs : readsSlot i = true := by rfl) (hc : isCommand i = true := by rfl)
    (hi : isInit i = false := by rfl) (ha : i.addrLegal = true := by rfl) : exec i s = faultTaken .slotRace s :=
  exec_of_decodeFault hc hp (decodeFault_slotRace (by simp [hi, hd]) ho ha hs hm)

/-- A command that reads n bytes of host memory at ARG_PTR, not all of them inside it; a slot reader only outside RX
(R63). -/
theorem exec_of_hostAddr {n : Nat} (hd : s.initDone = true) (hp : s.phase = .start) (hr : 65536 < s.argPtr.toNat + n)
    (hs : readsSlot i = true → s.mode ≠ .rx) (hn : hostBytes i s = some n := by rfl)
    (hc : isCommand i = true := by rfl) (hi : isInit i = false := by rfl) (ho : i.argLegal = true := by rfl)
    (ha : i.addrLegal = true := by rfl) : exec i s = faultTaken .hostAddr s := by
  have outside : hostRangeOk i s = false := by
    rw [hostRangeOk, hn]
    exact decide_eq_false (Nat.not_le.2 hr)
  exact exec_of_decodeFault hc hp (decodeFault_hostAddr (by simp [hi, hd]) ho ha hs outside)

end

/-- Settles O13: each clause names the first check that fails. -/
theorem decodeChecksInOrder : Obligations.DecodeChecksInOrder := by
  intro s hp
  refine ⟨fun hd a n => ?_, fun hd i hc hi => ?_, fun hd => ⟨?_, ?_, ?_⟩, fun hd n => ?_, fun hd hm => ⟨?_, ?_⟩,
    fun hd hr => ⟨?_, ?_, ?_, ?_⟩, fun hd hr => ?_⟩
  · exact exec_of_decodeFault rfl hp (decodeFault_reinit rfl hd)
  · exact exec_of_decodeFault hc hp (decodeFault_notInitialized hi hd)
  · exact fun a ha => exec_of_illegalArg hd hp (decide_eq_false (Nat.not_le.2 ha))
  · exact fun a ha => exec_of_illegalArg hd hp (decide_eq_false (Nat.not_le.2 ha))
  · exact fun a ha => exec_of_illegalArg hd hp (decide_eq_false (Nat.not_lt.2 ha))
  · exact exec_of_decodeFault rfl hp (decodeFault_reservedAddr (by simp [isInit, hd]) rfl rfl)
  · intro i hi
    simp only [List.mem_cons, List.not_mem_nil, or_false] at hi
    rcases hi with rfl | rfl | rfl | rfl | rfl | rfl | rfl <;> exact exec_of_slotRace hd hp hm
  · exact fun a ha => exec_of_slotRace hd hp hm (decide_eq_true ha)
  · exact fun t rq => exec_of_hostAddr hd hp hr (by simp [readsSlot])
  · exact fun t r => exec_of_hostAddr hd hp hr (by simp [readsSlot])
  · exact fun hm => exec_of_hostAddr hd hp hr fun _ => hm
  · exact fun t rq ar => exec_of_hostAddr hd hp hr (by simp [readsSlot])
  · exact exec_of_hostAddr hd hp hr (by simp [readsSlot])

end Sys2Proof.Machine
end

section
/-! SUPPORT. What every capture leaves: the command context as it was (R309), and no edge of its own (R311). -/

namespace Sys2Proof.Machine

/-- Settles O26: the run is its entry, the read and its exit. -/
theorem spuriousCapture : Obligations.SpuriousCapture := by
  intro s hs
  rcases execCapture_cases s with ⟨hm, hp, -⟩ | ⟨-, spurious⟩
  · simp [hm, hp] at hs
  · rw [exec, spurious, chipReadPayloadReady_eq]
    rfl

/-! ### The command context (R309) -/

/-- The command context is the same: APP's position and registers, the host registers, the configuration, the clock and
host memory. Only what a capture may write can differ (R175, R309). -/
def ContextSame (s t : State) : Prop :=
  t = { s with
    ie := t.ie, inIsr := t.inIsr, irqPending := t.irqPending, mode := t.mode, hpOn := t.hpOn, chipMode := t.chipMode
    dio0Map := t.dio0Map, slot := t.slot, chip := t.chip, answers := t.answers, draws := t.draws
    busTrace := t.busTrace }

section
variable {s t u : State}

theorem ContextSame.trans (h : ContextSame s t) (h' : ContextSame t u) : ContextSame s u :=
  Eq.trans h' (by rw [h])

theorem contextSame_setModeNow (m : Mode) (s : State) : ContextSame s (setModeNow m s) := by
  by_cases hm : s.mode = m
  · rw [setModeNow_same hm]
    rfl
  · rw [setModeNow_other hm, setModeBus_eq]
    rfl

theorem contextSame_rearm (s : State) : ContextSame s (rearm s) := by
  rw [rearm_eq]
  rfl

/-- On either path the frame part keeps the context (R175). -/
theorem contextSame_captureFrame (s : State) : ContextSame s (captureFrame s) := by
  have standby : ContextSame s (setModeNow .standby s) := contextSame_setModeNow _ s
  rcases captureFrame_cases s with ⟨-, path⟩ | ⟨-, path⟩ <;> rw [path]
  · rw [captureAccept_eq]
    refine ContextSame.trans (ContextSame.trans standby ?_) (contextSame_setModeNow .rx _)
    rfl
  · rw [captureReject_eq]
    refine ContextSame.trans (ContextSame.trans standby ?_) ((contextSame_rearm _).trans (contextSame_setModeNow .rx _))
    rfl

/-- A capture of a waiting frame keeps the context (R309). -/
theorem contextSame_of_capture (hm : s.mode = .rx) (hp : s.chip.payloadReady = true) (hx : exec .capture s = .next t) :
    ContextSame s t := by
  obtain rfl := Host.Outcome.next.inj ((exec_capture_waiting hm hp).symm.trans hx)
  have entered : ContextSame s (captureEntered s) := by
    rw [captureEntered, chipReadPayloadReady_eq]
    rfl
  rw [captureEnd_eq]
  exact (entered.trans (contextSame_captureFrame _)).trans rfl

end

/-- Settles O29: a capture of a waiting frame keeps the context and ends in RX, where it began; a spurious one writes
the interrupt bits alone. -/
theorem captureLeavesCommandContext : Obligations.CaptureLeavesCommandContext := by
  intro s
  rcases execCapture_cases s with ⟨hm, hp, -⟩ | ⟨spurious, -⟩
  · obtain ⟨t, hx⟩ := exists_exec_capture hm hp
    obtain ⟨-, -, ⟨mode, -, -, -⟩, ie, inIsr, irqPending⟩ := captureEnded hm hp hx
    exact ⟨t, hx, ie, inIsr, irqPending, contextSame_of_capture hm hp hx, mode.trans hm.symm⟩
  · exact ⟨_, spuriousCapture s spurious, rfl, rfl, rfl, rfl, rfl⟩

/-! ### DIO0 (R307, R311) -/

section
variable {s t : State}

/-- The line with DIO0 mapped to packet sent, and to payload ready (R307). -/
theorem dio0_eq_true_iff : dio0 s = true ↔
    (s.dio0Map = true ∧ s.chip.packetSent = true) ∨ (s.dio0Map = false ∧ s.chip.payloadReady = true) := by
  cases h : s.dio0Map <;> simp [dio0, h]

/-- SetMode may clear packet sent and never sets it (R130). -/
theorem packetSent_of_setModeNow {m : Mode} (h : (setModeNow m s).chip.packetSent = true) :
    s.chip.packetSent = true := by
  rw [setModeNow_chip_packetSent] at h
  split at h
  · exact h
  · exact (Bool.and_eq_true_iff.1 h).1

/-- No path of the frame part sets packet sent (R175). -/
theorem packetSent_of_captureFrame (h : (captureFrame s).chip.packetSent = true) : s.chip.packetSent = true := by
  rcases captureFrame_cases s with ⟨-, path⟩ | ⟨-, path⟩ <;> rw [path] at h
  · rw [captureAccept_eq] at h
    have stored := packetSent_of_setModeNow h
    dsimp only at stored
    exact packetSent_of_setModeNow stored
  · rw [captureReject_eq] at h
    have rearmed := packetSent_of_setModeNow h
    rw [rearm_chip_packetSent] at rearmed
    dsimp only at rearmed
    exact packetSent_of_setModeNow rearmed

theorem packetSent_of_capture (hm : s.mode = .rx) (hp : s.chip.payloadReady = true) (hx : exec .capture s = .next t)
    (h : t.chip.packetSent = true) : s.chip.packetSent = true := by
  obtain rfl := Host.Outcome.next.inj ((exec_capture_waiting hm hp).symm.trans hx)
  rw [captureEnd_eq] at h
  exact packetSent_of_captureFrame (s := captureEntered s) h

/-- After a capture of a waiting frame payload ready is 0, so a line that reads 1 is mapped to packet sent: the frame
was accepted, the map is the old one, and packet sent was 1 before (R311). -/
theorem dio0_of_capture (hm : s.mode = .rx) (hp : s.chip.payloadReady = true) (hx : exec .capture s = .next t)
    (h : dio0 t = true) : dio0 s = true := by
  obtain ⟨-, -, ⟨-, -, payloadReady, -⟩, -⟩ := captureEnded hm hp hx
  rcases dio0_eq_true_iff.1 h with ⟨mapped, sent⟩ | ⟨-, ready⟩
  · cases filter : acceptsWaiting s with
    | true =>
      have kept := dio0Map_of_accepted hm hp filter hx
      exact dio0_eq_true_iff.2 (.inl ⟨kept.symm.trans mapped, packetSent_of_capture hm hp hx sent⟩)
    | false =>
      obtain ⟨-, remapped⟩ := rearmed_of_rejected hm hp filter hx
      exact absurd (remapped.symm.trans mapped) (by decide)
  · exact absurd (payloadReady.symm.trans ready) (by decide)

end

/-- Settles O30: a line that reads 1 after a capture read 1 before it. -/
theorem captureRaisesNoEdge : Obligations.CaptureRaisesNoEdge := by
  rintro s t hx ⟨low, high⟩
  rcases execCapture_cases s with ⟨hm, hp, -⟩ | ⟨spurious, -⟩
  · exact absurd (low.symm.trans (dio0_of_capture hm hp hx high)) (by decide)
  · obtain rfl := Host.Outcome.next.inj ((spuriousCapture s spurious).symm.trans hx)
    exact absurd (low.symm.trans high) (by decide)

end Sys2Proof.Machine
end

section
/-! SUPPORT. What runs next, and the moves of ENV: the engine's own unit in each case (R304, R308), the edge latch
(R307), and a step of the environment (R314, R316, R342). -/

namespace Sys2Proof.Machine

section
variable {s t u : State}

/-! ### The engine's own unit, and a host write under a latched fault (R304, R308) -/

/-- A capture that is due comes first (R308). -/
theorem engineUnit_of_captureDue (h : captureDue s = true) : engineUnit s = latched s (exec .capture s) := by
  rw [engineUnit, if_pos h]

/-- With no capture due and no fault latched, the running command goes on (R308). -/
theorem engineUnit_of_running (hdue : captureDue s = false) (hf : s.faultCode = .none) (hb : s.busy = true) :
    engineUnit s = latched s (appUnit s) := by
  rw [engineUnit, if_neg (by simp [hdue]), if_pos ⟨hf, hb⟩]

/-- A latched fault stops the engine (R304). -/
theorem engineUnit_of_fault (hf : s.faultCode ≠ .none) : engineUnit s = .next s := by
  have notDue : captureDue s = false := by simp [captureDue, hf]
  rw [engineUnit, if_neg (by simp [notDue]), if_neg fun h => hf h.1]

theorem EngineSame.trans (h : EngineSame s t) (h' : EngineSame t u) : EngineSame s u :=
  Eq.trans h' (by rw [h])

/-- A host write under a latched fault is ignored (R304, R305). -/
theorem hostWrite_of_fault (r : HostReg) (v : Word) (hf : s.faultCode ≠ .none) : hostWrite r v s = s := by
  rw [hostWrite, if_pos hf]

end

/-- Settles O5: the running command's unit is exec of the decoded word. -/
theorem stepRunsDecodedCommand : Obligations.StepRunsDecodedCommand := by
  intro s i hturn hdue hf hb hi
  have unit : appUnit (afterMove s) = exec i (afterMove s) := by
    have hword : decodeCommand (afterMove s).curCmd = .ok i := hi
    simp only [appUnit, hword]
  rw [step_of_engineTurn hturn, engineUnit_of_running (s := afterMove s) hdue hf hb, unit]

/-- Settles O7: the condition is `captureDue_iff`, and the engine's own unit asks it first. -/
theorem captureRunsFirst : Obligations.CaptureRunsFirst := by
  refine fun s => ⟨captureDue_iff s, fun hturn hdue => ?_⟩
  rw [step_of_engineTurn hturn, engineUnit_of_captureDue (s := afterMove s) hdue]

/-- Settles O59: under a latched fault the engine's own unit and a host write do nothing, and every other move but the
reset writes only what HOST and ENV hold. -/
theorem latchedFaultHalts : Obligations.LatchedFaultHalts := by
  intro s hf hn t ht
  have latch : ∀ u, EngineSame s u → EngineSame s (latchEdge (afterMove s) u) :=
    fun u h => h.trans (engineSame_latchEdge _ u)
  have hf' : (afterMove s).faultCode ≠ .none := hf
  rcases step_cases ht with ⟨-, hu⟩ | ⟨-, -, v, r, -, -, rfl⟩ | ⟨-, -, r, -, -, rfl⟩ | ⟨a, b, -, -, rfl⟩ |
    ⟨hr, -⟩ | ⟨-, rfl⟩ | ⟨-, bytes, -, rfl | ⟨-, -, -, rfl⟩⟩ | ⟨-, rfl | ⟨-, -, -, rfl⟩⟩ | ⟨-, rfl⟩
  · obtain rfl := Host.Outcome.next.inj ((engineUnit_of_fault hf').symm.trans hu)
    rfl
  · rw [hostWrite_of_fault r v hf']
    exact latch _ rfl
  · rfl
  · rfl
  · exact absurd hr hn
  · rfl
  · rfl
  · exact latch _ rfl
  · rfl
  · exact latch _ rfl
  · rfl

/-! ### The edge latch (R307) -/

/-- Settles O9: the latch is `latchEdge_eq`, and the line is the flag that DIO0 is mapped to. -/
theorem risingEdgeLatches : Obligations.RisingEdgeLatches := by
  refine fun s t => ⟨fun low high => ?_, fun still => ?_, ?_⟩
  · rw [latchEdge, low, high]
    rfl
  · have noEdge : (!dio0 s && dio0 t) = false := by
      rcases still with h | h <;> simp [h]
    rw [latchEdge, noEdge]
    rfl
  · cases h : s.dio0Map <;> simp [dio0, h]

/-! ### A step of the environment (R314, R316, R342) -/

section
variable {s : State} {rest : List Input}

/-- A frame of another network never reaches the chip (R316). -/
theorem step_frame_elsewhere {net : Byte} {bytes : List Byte} (hi : s.inputs = .frame net bytes :: rest)
    (hn : net ≠ s.chip.netId) : step s = .next (afterMove s) := by
  have elsewhere : frameUnit net bytes (afterMove s) = .next (afterMove s) := by
    rw [frameUnit_eq]
    exact if_neg hn
  rw [step_of_inputs hi, inputUnit, elsewhere, latched_next, latchEdge_of_dio0_eq rfl]

/-- A frame of the chip's network is the unit of its class (R97, R316). -/
theorem step_frame_here {net : Byte} {bytes : List Byte} {i : Instr} (hi : s.inputs = .frame net bytes :: rest)
    (hd : decodeFrame bytes = .ok i) (hn : net = s.chip.netId) :
    step s = latched (afterMove s) (exec i (afterMove s)) := by
  have here : frameUnit net bytes (afterMove s) = exec i (afterMove s) := by
    rw [frameUnit_eq, exec_of_decodeFrame hd]
    exact if_pos hn
  rw [step_of_inputs hi, inputUnit, here]

/-- A packet-sent move is the event and the edge latch (R307, R316). -/
theorem step_packetSent (hi : s.inputs = .packetSent :: rest) :
    step s = latched (afterMove s) (packetSentEvent (afterMove s)) := by
  rw [step_of_inputs hi, inputUnit]

/-- The chip after the loaded frame has gone on the air (R316). -/
def packetGone (c : Chip) : Chip := { c with air := c.air ++ [c.txFrame], packetSent := true, txLoaded := false }

/-- Packet sent rises on the line where DIO0 is mapped to it (R307). -/
theorem latchEdge_packetGone (s : State) :
    latchEdge s { s with chip := packetGone s.chip } = { s with
      chip := packetGone s.chip
      irqPending := if s.dio0Map = true ∧ s.chip.packetSent = false then true else s.irqPending } := by
  rw [latchEdge_eq]
  cases hmap : s.dio0Map <;> cases hsent : s.chip.packetSent <;> simp [dio0, packetGone, hmap, hsent]

end

/-- Settles O8: each move is its event, followed by the edge latch but for the bring-up. -/
theorem environmentMoves : Obligations.EnvironmentMoves := by
  refine fun s rest => ⟨fun net bytes i hi hd => ⟨step_frame_here hi hd, step_frame_elsewhere hi⟩,
    fun hi => ⟨fun ho hm hl => ?_, fun ho hcannot => ?_, fun ho => ?_⟩, fun hi => ?_, fun hi => ?_⟩
  · have sent : packetSentEvent (afterMove s) = .next { afterMove s with chip := packetGone s.chip } := by
      simp [packetSentEvent, canComplete, packetGone, afterMove, ho, hm, hl]
    rw [step_packetSent hi, sent, latched_next, afterMove_of_inputs hi]
    exact congrArg Host.Outcome.next (latchEdge_packetGone { s with inputs := rest })
  · have nothing : packetSentEvent (afterMove s) = .next (afterMove s) := by
      rcases hcannot with h | h <;> simp [packetSentEvent, canComplete, afterMove, ho, h]
    rw [step_packetSent hi, nothing, latched_next, latchEdge_of_dio0_eq rfl, afterMove_of_inputs hi]
  · have refused : packetSentEvent (afterMove s) = .refused .chipOutOfStep := if_neg ho
    rw [step_packetSent hi, refused]
    rfl
  · have still : latchEdge (afterMove s) (tickEvent (afterMove s)) = tickEvent (afterMove s) := latchEdge_of_dio0_eq rfl
    have ticked : step s = .next (tickEvent (afterMove s)) := by
      rw [step_of_inputs hi, inputUnit, latched_next, still]
    rw [afterMove_of_inputs hi] at ticked
    exact ⟨_, ticked, BitVec.toNat_add s.clock 1, rfl⟩
  · rw [step_of_inputs hi, afterMove_of_inputs hi]
    rfl

end Sys2Proof.Machine
end

section
/-! SUPPORT. The state after reset and the reset input: the values R340 gives, what the input leaves as it was, and the
invariants from which every run starts. -/

namespace Sys2Proof.Machine

variable {s : State} {rest : List Input}

/-! ### The values of R340 -/

/-- The STATUS word of R340: MODE = 1 at bit 2 is its only bit. -/
theorem statusWord_idle (hb : s.busy = false) (hi : s.initDone = false) (hm : s.mode = .standby)
    (hf : s.faultCode = .none) : statusWord s = 0x00000004 := by
  rw [statusWord, hb, hi, hm, hf]
  decide

/-- Settles O48: the STATUS word from its four fields, and the other registers as `State.reset` gives them. -/
theorem resetValues : Obligations.ResetValues := by
  refine ⟨rfl, rfl, rfl, rfl, rfl, rfl, rfl, statusWord_idle rfl rfl rfl rfl, ?_⟩
  simp [State.reset, resetSlot]

/-! ### The reset input -/

/-- A reset move is the reset event alone: nothing asks for the sequencer or the fault, and no edge is latched after it
(R340). -/
theorem step_reset (hi : s.inputs = .reset :: rest) : step s = .next (resetEvent (afterMove s)) := by
  rw [step_of_inputs hi, inputUnit]

/-- Settles O49: the step is the reset event, which builds its registers from those of `State.reset` and copies what
R340 keeps. -/
theorem resetEventResult : Obligations.ResetEventResult := by
  intro s rest hi
  obtain ⟨params, chip, clock, hostMem, -⟩ := resetEvent_keeps (afterMove s)
  refine ⟨resetEvent (afterMove s), step_reset hi, statusWord_idle rfl rfl rfl rfl, ?_⟩
  rw [params, chip, clock, hostMem]
  simp [resetEvent, State.reset, afterMove]

/-! ### The invariants -/

/-- A chip with nothing on the air and nothing loaded transmits no frame (R316). -/
theorem airLegal_of_silent (hair : s.chip.air = []) (hl : s.chip.txLoaded = false) : AirLegal s := by
  simp [AirLegal, hair, hl]

/-- Settles O50: the sequencer and the modes are as a reset event leaves them, and every other invariant has its base
case in the reset values. -/
theorem resetMeetsInvariants : Obligations.ResetMeetsInvariants := by
  have window : WindowOpen State.reset := ⟨rfl, rfl⟩
  have sequencer : SequencerLegal State.reset := (sequencerLegal_resetEvent State.reset).congr rfl rfl
  have modes : ModesAgree State.reset := (modesAgree_resetEvent State.reset).congr rfl rfl
  have retries : RetryBounded State.reset := retryBounded_of_start rfl
  have air : AirLegal State.reset := airLegal_of_silent rfl rfl
  have slot : SlotLegal State.reset := .inl ⟨rfl, rfl⟩
  have identity : OwnAddrLegal State.reset := by simp [OwnAddrLegal, State.reset]
  exact ⟨window, sequencer, modes, retries, air, slot, identity, reset_mem_wf⟩

end Sys2Proof.Machine
end
